-- ==== Sys2Proof/Word.lean ====
section
/-! DEFINITION. The two word types of the core: 8-bit registers, flags and memory cells, and 16-bit PC, SP, pairs and addresses (00_scope.md R7: XLEN8, XLEN16, ADDR_BITS). -/

namespace Sys2Proof

/-- An 8-bit value: a register A to L, the flag register F, a memory byte. -/
abbrev Byte := BitVec 8

/-- A 16-bit value: PC, SP, a composite view, an address. -/
abbrev Word := BitVec 16

end Sys2Proof
end

