-- ==== Sys2Proof/Config.lean ====
section
/-! DEFINITION. What one implementation fixes: the named parameters of 92_eei_decisions.md that a model takes as arguments. The opcode table, the other named parameter, is `Sys2Proof.opcodeTable` in Decode.lean. -/

namespace Sys2Proof

/-- `MEM_SIZE`: the number of bytes behind the Memory Interface (00_scope.md R7, decision D1). -/
def Config.memSize : Nat := 65536

/-- What a byte of memory reads as when `INIT_MEM` and no write has given it a value.
DESIGN CHOICE, unsafe (log 2): `INIT_MEM` is an OPEN parameter, its default is all 0x00 (20_memory.md R42). -/
def Config.memFill : Byte := 0x00#8

/-- `INIT`: the state that construction chooses and the spec leaves OPEN (10_state.md R31, decision D11).
`halted` and `stopped` are no part of it: they are false after construction. -/
structure Config.Init where
  a : Byte
  b : Byte
  c : Byte
  d : Byte
  e : Byte
  h : Byte
  l : Byte
  /-- Stored masked with 0xF0 (R12, R31). -/
  f : Byte
  pc : Word
  sp : Word
  m : Nat
  t : Nat
  ime : Bool
  deriving DecidableEq, Repr

/-- The defaults of `INIT`, all zero and `ime` false (R31).
DESIGN CHOICE, unsafe (log 1): a default for a first run, not a value the source gives. -/
def Config.initDefault : Config.Init :=
  { a := 0x00#8, b := 0x00#8, c := 0x00#8, d := 0x00#8, e := 0x00#8, h := 0x00#8, l := 0x00#8,
    f := 0x00#8, pc := 0x0000#16, sp := 0x0000#16, m := 0, t := 0, ime := false }

end Sys2Proof
end

