-- ==== Sys2Proof/Syntax.lean ====
section
/-! DEFINITION. The instructions as syntax: the operand names of the spec (30_encoding.md R63 to R66), one constructor of `Instr` per row of spec/opcode_table.json (R68), and `Shape`, the rows of R68's pattern table. -/

namespace Sys2Proof

/-- The eight-bit registers an operand field can name (R63): F has no code. -/
inductive Reg8 where
  | b | c | d | e | h | l | a
  deriving DecidableEq, Repr

/-- The sixteen-bit operands `rr` (R64, first line). -/
inductive Reg16 where
  | bc | de | hl | sp
  deriving DecidableEq, Repr

/-- The indirect operands of the accumulator loads and stores (R64, second line). -/
inductive IndMode where
  | bc | de | hlInc | hlDec
  deriving DecidableEq, Repr

/-- The conditions of `JR cc,r8` (R65). -/
inductive Cond where
  | nz | z | nc | c
  deriving DecidableEq, Repr

/-- The eight-bit operations (R66). -/
inductive AluOp where
  | add | adc | sub | sbc | and | xor | or | cp
  deriving DecidableEq, Repr

/-- One constructor per row of spec/opcode_table.json, in the table's order.
`d8` and `d16` are unsigned immediates (R67).
`off` is the signed offset of a relative jump, an integer (R67, R86). -/
inductive Instr where
  /-- `LD BC,d16` (R114). -/
  | ldBcImm16 (d16 : Word)
  /-- `LD (BC),A` (R106). -/
  | ldIndBcA
  /-- `INC BC` (R159). -/
  | incBc
  /-- `INC B` (R155). -/
  | incB
  /-- `DEC B` (R157). -/
  | decB
  /-- `LD B,d8` (R104). -/
  | ldBImm (d8 : Byte)
  /-- `RLCA` (R165). -/
  | rlca
  /-- `ADD HL,BC` (R150). -/
  | addHlBc
  /-- `LD A,(BC)` (R108). -/
  | ldAIndBc
  /-- `DEC BC` (R160). -/
  | decBc
  /-- `INC C` (R155). -/
  | incC
  /-- `DEC C` (R157). -/
  | decC
  /-- `LD C,d8` (R104). -/
  | ldCImm (d8 : Byte)
  /-- `RRCA` (R166). -/
  | rrca
  /-- `STOP` (R186). -/
  | stop
  /-- `LD DE,d16` (R114). -/
  | ldDeImm16 (d16 : Word)
  /-- `LD (DE),A` (R107). -/
  | ldIndDeA
  /-- `INC DE` (R159). -/
  | incDe
  /-- `INC D` (R155). -/
  | incD
  /-- `DEC D` (R157). -/
  | decD
  /-- `LD D,d8` (R104). -/
  | ldDImm (d8 : Byte)
  /-- `RLA` (R167). -/
  | rla
  /-- `JR r8` (R171). -/
  | jr (off : Int)
  /-- `ADD HL,DE` (R150). -/
  | addHlDe
  /-- `LD A,(DE)` (R109). -/
  | ldAIndDe
  /-- `DEC DE` (R160). -/
  | decDe
  /-- `INC E` (R155). -/
  | incE
  /-- `DEC E` (R157). -/
  | decE
  /-- `LD E,d8` (R104). -/
  | ldEImm (d8 : Byte)
  /-- `RRA` (R168). -/
  | rra
  /-- `JR NZ,r8` (R172). -/
  | jrNz (off : Int)
  /-- `LD HL,d16` (R114). -/
  | ldHlImm16 (d16 : Word)
  /-- `LD (HL+),A` (R110). -/
  | ldIndHlIncA
  /-- `INC HL` (R159). -/
  | incHl
  /-- `INC H` (R155). -/
  | incH
  /-- `DEC H` (R157). -/
  | decH
  /-- `LD H,d8` (R104). -/
  | ldHImm (d8 : Byte)
  /-- `DAA` (R180). -/
  | daa
  /-- `JR Z,r8` (R173). -/
  | jrZ (off : Int)
  /-- `ADD HL,HL` (R150). -/
  | addHlHl
  /-- `LD A,(HL+)` (R112). -/
  | ldAIndHlInc
  /-- `DEC HL` (R160). -/
  | decHl
  /-- `INC L` (R155). -/
  | incL
  /-- `DEC L` (R157). -/
  | decL
  /-- `LD L,d8` (R104). -/
  | ldLImm (d8 : Byte)
  /-- `CPL` (R181). -/
  | cpl
  /-- `JR NC,r8` (R174). -/
  | jrNc (off : Int)
  /-- `LD SP,d16` (R115). -/
  | ldSpImm16 (d16 : Word)
  /-- `LD (HL-),A` (R111). -/
  | ldIndHlDecA
  /-- `INC SP` (R159). -/
  | incSp
  /-- `INC (HL)` (R156). -/
  | incIndHl
  /-- `DEC (HL)` (R158). -/
  | decIndHl
  /-- `LD (HL),d8` (R105). -/
  | ldIndHlImm (d8 : Byte)
  /-- `SCF` (R182). -/
  | scf
  /-- `JR C,r8` (R175). -/
  | jrC (off : Int)
  /-- `ADD HL,SP` (R150). -/
  | addHlSp
  /-- `LD A,(HL-)` (R113). -/
  | ldAIndHlDec
  /-- `DEC SP` (R160). -/
  | decSp
  /-- `INC A` (R155). -/
  | incA
  /-- `DEC A` (R157). -/
  | decA
  /-- `LD A,d8` (R104). -/
  | ldAImm (d8 : Byte)
  /-- `CCF` (R183). -/
  | ccf
  /-- `LD B,B` (R101). -/
  | ldBB
  /-- `LD B,C` (R101). -/
  | ldBC
  /-- `LD B,D` (R101). -/
  | ldBD
  /-- `LD B,E` (R101). -/
  | ldBE
  /-- `LD B,H` (R101). -/
  | ldBH
  /-- `LD B,L` (R101). -/
  | ldBL
  /-- `LD B,(HL)` (R102). -/
  | ldBIndHl
  /-- `LD B,A` (R101). -/
  | ldBA
  /-- `LD C,B` (R101). -/
  | ldCB
  /-- `LD C,C` (R101). -/
  | ldCC
  /-- `LD C,D` (R101). -/
  | ldCD
  /-- `LD C,E` (R101). -/
  | ldCE
  /-- `LD C,H` (R101). -/
  | ldCH
  /-- `LD C,L` (R101). -/
  | ldCL
  /-- `LD C,(HL)` (R102). -/
  | ldCIndHl
  /-- `LD C,A` (R101). -/
  | ldCA
  /-- `LD D,B` (R101). -/
  | ldDB
  /-- `LD D,C` (R101). -/
  | ldDC
  /-- `LD D,D` (R101). -/
  | ldDD
  /-- `LD D,E` (R101). -/
  | ldDE
  /-- `LD D,H` (R101). -/
  | ldDH
  /-- `LD D,L` (R101). -/
  | ldDL
  /-- `LD D,(HL)` (R102). -/
  | ldDIndHl
  /-- `LD D,A` (R101). -/
  | ldDA
  /-- `LD E,B` (R101). -/
  | ldEB
  /-- `LD E,C` (R101). -/
  | ldEC
  /-- `LD E,D` (R101). -/
  | ldED
  /-- `LD E,E` (R101). -/
  | ldEE
  /-- `LD E,H` (R101). -/
  | ldEH
  /-- `LD E,L` (R101). -/
  | ldEL
  /-- `LD E,(HL)` (R102). -/
  | ldEIndHl
  /-- `LD E,A` (R101). -/
  | ldEA
  /-- `LD H,B` (R101). -/
  | ldHB
  /-- `LD H,C` (R101). -/
  | ldHC
  /-- `LD H,D` (R101). -/
  | ldHD
  /-- `LD H,E` (R101). -/
  | ldHE
  /-- `LD H,H` (R101). -/
  | ldHH
  /-- `LD H,L` (R101). -/
  | ldHL
  /-- `LD H,(HL)` (R102). -/
  | ldHIndHl
  /-- `LD H,A` (R101). -/
  | ldHA
  /-- `LD L,B` (R101). -/
  | ldLB
  /-- `LD L,C` (R101). -/
  | ldLC
  /-- `LD L,D` (R101). -/
  | ldLD
  /-- `LD L,E` (R101). -/
  | ldLE
  /-- `LD L,H` (R101). -/
  | ldLH
  /-- `LD L,L` (R101). -/
  | ldLL
  /-- `LD L,(HL)` (R102). -/
  | ldLIndHl
  /-- `LD L,A` (R101). -/
  | ldLA
  /-- `LD (HL),B` (R103). -/
  | ldIndHlB
  /-- `LD (HL),C` (R103). -/
  | ldIndHlC
  /-- `LD (HL),D` (R103). -/
  | ldIndHlD
  /-- `LD (HL),E` (R103). -/
  | ldIndHlE
  /-- `LD (HL),H` (R103). -/
  | ldIndHlH
  /-- `LD (HL),L` (R103). -/
  | ldIndHlL
  /-- `HALT` (R185). -/
  | halt
  /-- `LD (HL),A` (R103). -/
  | ldIndHlA
  /-- `LD A,B` (R101). -/
  | ldAB
  /-- `LD A,C` (R101). -/
  | ldAC
  /-- `LD A,D` (R101). -/
  | ldAD
  /-- `LD A,E` (R101). -/
  | ldAE
  /-- `LD A,H` (R101). -/
  | ldAH
  /-- `LD A,L` (R101). -/
  | ldAL
  /-- `LD A,(HL)` (R102). -/
  | ldAIndHl
  /-- `LD A,A` (R101). -/
  | ldAA
  /-- `ADD A,B` (R124). -/
  | addAB
  /-- `ADD A,C` (R124). -/
  | addAC
  /-- `ADD A,D` (R124). -/
  | addAD
  /-- `ADD A,E` (R124). -/
  | addAE
  /-- `ADD A,H` (R124). -/
  | addAH
  /-- `ADD A,L` (R124). -/
  | addAL
  /-- `ADD A,(HL)` (R125). -/
  | addAIndHl
  /-- `ADD A,A` (R124). -/
  | addAA
  /-- `ADC A,B` (R127). -/
  | adcAB
  /-- `ADC A,C` (R127). -/
  | adcAC
  /-- `ADC A,D` (R127). -/
  | adcAD
  /-- `ADC A,E` (R127). -/
  | adcAE
  /-- `ADC A,H` (R127). -/
  | adcAH
  /-- `ADC A,L` (R127). -/
  | adcAL
  /-- `ADC A,(HL)` (R128). -/
  | adcAIndHl
  /-- `ADC A,A` (R127). -/
  | adcAA
  /-- `SUB A,B` (R130). -/
  | subAB
  /-- `SUB A,C` (R130). -/
  | subAC
  /-- `SUB A,D` (R130). -/
  | subAD
  /-- `SUB A,E` (R130). -/
  | subAE
  /-- `SUB A,H` (R130). -/
  | subAH
  /-- `SUB A,L` (R130). -/
  | subAL
  /-- `SUB A,(HL)` (R131). -/
  | subAIndHl
  /-- `SUB A,A` (R130). -/
  | subAA
  /-- `SBC A,B` (R133). -/
  | sbcAB
  /-- `SBC A,C` (R133). -/
  | sbcAC
  /-- `SBC A,D` (R133). -/
  | sbcAD
  /-- `SBC A,E` (R133). -/
  | sbcAE
  /-- `SBC A,H` (R133). -/
  | sbcAH
  /-- `SBC A,L` (R133). -/
  | sbcAL
  /-- `SBC A,(HL)` (R134). -/
  | sbcAIndHl
  /-- `SBC A,A` (R133). -/
  | sbcAA
  /-- `AND A,B` (R136). -/
  | andAB
  /-- `AND A,C` (R136). -/
  | andAC
  /-- `AND A,D` (R136). -/
  | andAD
  /-- `AND A,E` (R136). -/
  | andAE
  /-- `AND A,H` (R136). -/
  | andAH
  /-- `AND A,L` (R136). -/
  | andAL
  /-- `AND A,(HL)` (R137). -/
  | andAIndHl
  /-- `AND A,A` (R136). -/
  | andAA
  /-- `XOR A,B` (R139). -/
  | xorAB
  /-- `XOR A,C` (R139). -/
  | xorAC
  /-- `XOR A,D` (R139). -/
  | xorAD
  /-- `XOR A,E` (R139). -/
  | xorAE
  /-- `XOR A,H` (R139). -/
  | xorAH
  /-- `XOR A,L` (R139). -/
  | xorAL
  /-- `XOR A,(HL)` (R140). -/
  | xorAIndHl
  /-- `XOR A,A` (R139). -/
  | xorAA
  /-- `OR A,B` (R142). -/
  | orAB
  /-- `OR A,C` (R142). -/
  | orAC
  /-- `OR A,D` (R142). -/
  | orAD
  /-- `OR A,E` (R142). -/
  | orAE
  /-- `OR A,H` (R142). -/
  | orAH
  /-- `OR A,L` (R142). -/
  | orAL
  /-- `OR A,(HL)` (R143). -/
  | orAIndHl
  /-- `OR A,A` (R142). -/
  | orAA
  /-- `CP A,B` (R145). -/
  | cpAB
  /-- `CP A,C` (R145). -/
  | cpAC
  /-- `CP A,D` (R145). -/
  | cpAD
  /-- `CP A,E` (R145). -/
  | cpAE
  /-- `CP A,H` (R145). -/
  | cpAH
  /-- `CP A,L` (R145). -/
  | cpAL
  /-- `CP A,(HL)` (R146). -/
  | cpAIndHl
  /-- `CP A,A` (R145). -/
  | cpAA
  /-- `ADD A,d8` (R126). -/
  | addAImm (d8 : Byte)
  /-- `ADC A,d8` (R129). -/
  | adcAImm (d8 : Byte)
  /-- `SUB A,d8` (R132). -/
  | subAImm (d8 : Byte)
  /-- `SBC A,d8` (R135). -/
  | sbcAImm (d8 : Byte)
  /-- `AND A,d8` (R138). -/
  | andAImm (d8 : Byte)
  /-- `XOR A,d8` (R141). -/
  | xorAImm (d8 : Byte)
  /-- `OR A,d8` (R144). -/
  | orAImm (d8 : Byte)
  /-- `CP A,d8` (R147). -/
  | cpAImm (d8 : Byte)
  deriving DecidableEq, Repr

/-- The rows of R68's pattern table: an instruction's form, with the operands its fields name.
`Instr` lists the 198 opcode bytes one by one; a `Shape` says the same with operands as data. -/
inductive Shape where
  /-- `LD r,r'` (R101). -/
  | ldRegReg (dst src : Reg8)
  /-- `LD r,(HL)` (R102). -/
  | ldRegInd (dst : Reg8)
  /-- `LD (HL),r` (R103). -/
  | ldIndReg (src : Reg8)
  /-- `LD r,d8` (R104). -/
  | ldRegImm (dst : Reg8) (d8 : Byte)
  /-- `LD (HL),d8` (R105). -/
  | ldIndImm (d8 : Byte)
  /-- `LD (BC),A`, `LD (DE),A`, `LD (HL+),A`, `LD (HL-),A` (R106, R107, R110, R111). -/
  | storeA (m : IndMode)
  /-- `LD A,(BC)`, `LD A,(DE)`, `LD A,(HL+)`, `LD A,(HL-)` (R108, R109, R112, R113). -/
  | loadA (m : IndMode)
  /-- `LD rr,d16`, `LD SP,d16` (R114, R115). -/
  | ldPairImm (rr : Reg16) (d16 : Word)
  /-- `alu A,r` (R124, R127, R130, R133, R136, R139, R142, R145). -/
  | aluReg (op : AluOp) (src : Reg8)
  /-- `alu A,(HL)` (R125, R128, R131, R134, R137, R140, R143, R146). -/
  | aluInd (op : AluOp)
  /-- `alu A,d8` (R126, R129, R132, R135, R138, R141, R144, R147). -/
  | aluImm (op : AluOp) (d8 : Byte)
  /-- `ADD HL,rr` (R150). -/
  | addHl (rr : Reg16)
  /-- `INC r` (R155). -/
  | incReg (r : Reg8)
  /-- `INC (HL)` (R156). -/
  | incInd
  /-- `DEC r` (R157). -/
  | decReg (r : Reg8)
  /-- `DEC (HL)` (R158). -/
  | decInd
  /-- `INC rr` (R159). -/
  | incPair (rr : Reg16)
  /-- `DEC rr` (R160). -/
  | decPair (rr : Reg16)
  /-- `RLCA` (R165). -/
  | rlca
  /-- `RRCA` (R166). -/
  | rrca
  /-- `RLA` (R167). -/
  | rla
  /-- `RRA` (R168). -/
  | rra
  /-- `JR r8` (R171). -/
  | jr (off : Int)
  /-- `JR cc,r8` (R172 to R175). -/
  | jrIf (cc : Cond) (off : Int)
  /-- `DAA` (R180). -/
  | daa
  /-- `CPL` (R181). -/
  | cpl
  /-- `SCF` (R182). -/
  | scf
  /-- `CCF` (R183). -/
  | ccf
  /-- `HALT` (R185). -/
  | halt
  /-- `STOP` (R186). -/
  | stop
  deriving DecidableEq, Repr

/-- The form of an instruction. -/
def Instr.shape : Instr → Shape
  | .ldBcImm16 d16 => .ldPairImm .bc d16
  | .ldIndBcA => .storeA .bc
  | .incBc => .incPair .bc
  | .incB => .incReg .b
  | .decB => .decReg .b
  | .ldBImm d8 => .ldRegImm .b d8
  | .rlca => .rlca
  | .addHlBc => .addHl .bc
  | .ldAIndBc => .loadA .bc
  | .decBc => .decPair .bc
  | .incC => .incReg .c
  | .decC => .decReg .c
  | .ldCImm d8 => .ldRegImm .c d8
  | .rrca => .rrca
  | .stop => .stop
  | .ldDeImm16 d16 => .ldPairImm .de d16
  | .ldIndDeA => .storeA .de
  | .incDe => .incPair .de
  | .incD => .incReg .d
  | .decD => .decReg .d
  | .ldDImm d8 => .ldRegImm .d d8
  | .rla => .rla
  | .jr off => .jr off
  | .addHlDe => .addHl .de
  | .ldAIndDe => .loadA .de
  | .decDe => .decPair .de
  | .incE => .incReg .e
  | .decE => .decReg .e
  | .ldEImm d8 => .ldRegImm .e d8
  | .rra => .rra
  | .jrNz off => .jrIf .nz off
  | .ldHlImm16 d16 => .ldPairImm .hl d16
  | .ldIndHlIncA => .storeA .hlInc
  | .incHl => .incPair .hl
  | .incH => .incReg .h
  | .decH => .decReg .h
  | .ldHImm d8 => .ldRegImm .h d8
  | .daa => .daa
  | .jrZ off => .jrIf .z off
  | .addHlHl => .addHl .hl
  | .ldAIndHlInc => .loadA .hlInc
  | .decHl => .decPair .hl
  | .incL => .incReg .l
  | .decL => .decReg .l
  | .ldLImm d8 => .ldRegImm .l d8
  | .cpl => .cpl
  | .jrNc off => .jrIf .nc off
  | .ldSpImm16 d16 => .ldPairImm .sp d16
  | .ldIndHlDecA => .storeA .hlDec
  | .incSp => .incPair .sp
  | .incIndHl => .incInd
  | .decIndHl => .decInd
  | .ldIndHlImm d8 => .ldIndImm d8
  | .scf => .scf
  | .jrC off => .jrIf .c off
  | .addHlSp => .addHl .sp
  | .ldAIndHlDec => .loadA .hlDec
  | .decSp => .decPair .sp
  | .incA => .incReg .a
  | .decA => .decReg .a
  | .ldAImm d8 => .ldRegImm .a d8
  | .ccf => .ccf
  | .ldBB => .ldRegReg .b .b
  | .ldBC => .ldRegReg .b .c
  | .ldBD => .ldRegReg .b .d
  | .ldBE => .ldRegReg .b .e
  | .ldBH => .ldRegReg .b .h
  | .ldBL => .ldRegReg .b .l
  | .ldBIndHl => .ldRegInd .b
  | .ldBA => .ldRegReg .b .a
  | .ldCB => .ldRegReg .c .b
  | .ldCC => .ldRegReg .c .c
  | .ldCD => .ldRegReg .c .d
  | .ldCE => .ldRegReg .c .e
  | .ldCH => .ldRegReg .c .h
  | .ldCL => .ldRegReg .c .l
  | .ldCIndHl => .ldRegInd .c
  | .ldCA => .ldRegReg .c .a
  | .ldDB => .ldRegReg .d .b
  | .ldDC => .ldRegReg .d .c
  | .ldDD => .ldRegReg .d .d
  | .ldDE => .ldRegReg .d .e
  | .ldDH => .ldRegReg .d .h
  | .ldDL => .ldRegReg .d .l
  | .ldDIndHl => .ldRegInd .d
  | .ldDA => .ldRegReg .d .a
  | .ldEB => .ldRegReg .e .b
  | .ldEC => .ldRegReg .e .c
  | .ldED => .ldRegReg .e .d
  | .ldEE => .ldRegReg .e .e
  | .ldEH => .ldRegReg .e .h
  | .ldEL => .ldRegReg .e .l
  | .ldEIndHl => .ldRegInd .e
  | .ldEA => .ldRegReg .e .a
  | .ldHB => .ldRegReg .h .b
  | .ldHC => .ldRegReg .h .c
  | .ldHD => .ldRegReg .h .d
  | .ldHE => .ldRegReg .h .e
  | .ldHH => .ldRegReg .h .h
  | .ldHL => .ldRegReg .h .l
  | .ldHIndHl => .ldRegInd .h
  | .ldHA => .ldRegReg .h .a
  | .ldLB => .ldRegReg .l .b
  | .ldLC => .ldRegReg .l .c
  | .ldLD => .ldRegReg .l .d
  | .ldLE => .ldRegReg .l .e
  | .ldLH => .ldRegReg .l .h
  | .ldLL => .ldRegReg .l .l
  | .ldLIndHl => .ldRegInd .l
  | .ldLA => .ldRegReg .l .a
  | .ldIndHlB => .ldIndReg .b
  | .ldIndHlC => .ldIndReg .c
  | .ldIndHlD => .ldIndReg .d
  | .ldIndHlE => .ldIndReg .e
  | .ldIndHlH => .ldIndReg .h
  | .ldIndHlL => .ldIndReg .l
  | .halt => .halt
  | .ldIndHlA => .ldIndReg .a
  | .ldAB => .ldRegReg .a .b
  | .ldAC => .ldRegReg .a .c
  | .ldAD => .ldRegReg .a .d
  | .ldAE => .ldRegReg .a .e
  | .ldAH => .ldRegReg .a .h
  | .ldAL => .ldRegReg .a .l
  | .ldAIndHl => .ldRegInd .a
  | .ldAA => .ldRegReg .a .a
  | .addAB => .aluReg .add .b
  | .addAC => .aluReg .add .c
  | .addAD => .aluReg .add .d
  | .addAE => .aluReg .add .e
  | .addAH => .aluReg .add .h
  | .addAL => .aluReg .add .l
  | .addAIndHl => .aluInd .add
  | .addAA => .aluReg .add .a
  | .adcAB => .aluReg .adc .b
  | .adcAC => .aluReg .adc .c
  | .adcAD => .aluReg .adc .d
  | .adcAE => .aluReg .adc .e
  | .adcAH => .aluReg .adc .h
  | .adcAL => .aluReg .adc .l
  | .adcAIndHl => .aluInd .adc
  | .adcAA => .aluReg .adc .a
  | .subAB => .aluReg .sub .b
  | .subAC => .aluReg .sub .c
  | .subAD => .aluReg .sub .d
  | .subAE => .aluReg .sub .e
  | .subAH => .aluReg .sub .h
  | .subAL => .aluReg .sub .l
  | .subAIndHl => .aluInd .sub
  | .subAA => .aluReg .sub .a
  | .sbcAB => .aluReg .sbc .b
  | .sbcAC => .aluReg .sbc .c
  | .sbcAD => .aluReg .sbc .d
  | .sbcAE => .aluReg .sbc .e
  | .sbcAH => .aluReg .sbc .h
  | .sbcAL => .aluReg .sbc .l
  | .sbcAIndHl => .aluInd .sbc
  | .sbcAA => .aluReg .sbc .a
  | .andAB => .aluReg .and .b
  | .andAC => .aluReg .and .c
  | .andAD => .aluReg .and .d
  | .andAE => .aluReg .and .e
  | .andAH => .aluReg .and .h
  | .andAL => .aluReg .and .l
  | .andAIndHl => .aluInd .and
  | .andAA => .aluReg .and .a
  | .xorAB => .aluReg .xor .b
  | .xorAC => .aluReg .xor .c
  | .xorAD => .aluReg .xor .d
  | .xorAE => .aluReg .xor .e
  | .xorAH => .aluReg .xor .h
  | .xorAL => .aluReg .xor .l
  | .xorAIndHl => .aluInd .xor
  | .xorAA => .aluReg .xor .a
  | .orAB => .aluReg .or .b
  | .orAC => .aluReg .or .c
  | .orAD => .aluReg .or .d
  | .orAE => .aluReg .or .e
  | .orAH => .aluReg .or .h
  | .orAL => .aluReg .or .l
  | .orAIndHl => .aluInd .or
  | .orAA => .aluReg .or .a
  | .cpAB => .aluReg .cp .b
  | .cpAC => .aluReg .cp .c
  | .cpAD => .aluReg .cp .d
  | .cpAE => .aluReg .cp .e
  | .cpAH => .aluReg .cp .h
  | .cpAL => .aluReg .cp .l
  | .cpAIndHl => .aluInd .cp
  | .cpAA => .aluReg .cp .a
  | .addAImm d8 => .aluImm .add d8
  | .adcAImm d8 => .aluImm .adc d8
  | .subAImm d8 => .aluImm .sub d8
  | .sbcAImm d8 => .aluImm .sbc d8
  | .andAImm d8 => .aluImm .and d8
  | .xorAImm d8 => .aluImm .xor d8
  | .orAImm d8 => .aluImm .or d8
  | .cpAImm d8 => .aluImm .cp d8

/-- The row `LD r,r'`. -/
def Instr.ofLdRegReg : Reg8 → Reg8 → Instr
  | .b, .b => .ldBB
  | .b, .c => .ldBC
  | .b, .d => .ldBD
  | .b, .e => .ldBE
  | .b, .h => .ldBH
  | .b, .l => .ldBL
  | .b, .a => .ldBA
  | .c, .b => .ldCB
  | .c, .c => .ldCC
  | .c, .d => .ldCD
  | .c, .e => .ldCE
  | .c, .h => .ldCH
  | .c, .l => .ldCL
  | .c, .a => .ldCA
  | .d, .b => .ldDB
  | .d, .c => .ldDC
  | .d, .d => .ldDD
  | .d, .e => .ldDE
  | .d, .h => .ldDH
  | .d, .l => .ldDL
  | .d, .a => .ldDA
  | .e, .b => .ldEB
  | .e, .c => .ldEC
  | .e, .d => .ldED
  | .e, .e => .ldEE
  | .e, .h => .ldEH
  | .e, .l => .ldEL
  | .e, .a => .ldEA
  | .h, .b => .ldHB
  | .h, .c => .ldHC
  | .h, .d => .ldHD
  | .h, .e => .ldHE
  | .h, .h => .ldHH
  | .h, .l => .ldHL
  | .h, .a => .ldHA
  | .l, .b => .ldLB
  | .l, .c => .ldLC
  | .l, .d => .ldLD
  | .l, .e => .ldLE
  | .l, .h => .ldLH
  | .l, .l => .ldLL
  | .l, .a => .ldLA
  | .a, .b => .ldAB
  | .a, .c => .ldAC
  | .a, .d => .ldAD
  | .a, .e => .ldAE
  | .a, .h => .ldAH
  | .a, .l => .ldAL
  | .a, .a => .ldAA

/-- The row `LD r,(HL)`. -/
def Instr.ofLdRegInd : Reg8 → Instr
  | .b => .ldBIndHl
  | .c => .ldCIndHl
  | .d => .ldDIndHl
  | .e => .ldEIndHl
  | .h => .ldHIndHl
  | .l => .ldLIndHl
  | .a => .ldAIndHl

/-- The row `LD (HL),r`. -/
def Instr.ofLdIndReg : Reg8 → Instr
  | .b => .ldIndHlB
  | .c => .ldIndHlC
  | .d => .ldIndHlD
  | .e => .ldIndHlE
  | .h => .ldIndHlH
  | .l => .ldIndHlL
  | .a => .ldIndHlA

/-- The row `LD r,d8`. -/
def Instr.ofLdRegImm : Reg8 → Byte → Instr
  | .b, d8 => .ldBImm d8
  | .c, d8 => .ldCImm d8
  | .d, d8 => .ldDImm d8
  | .e, d8 => .ldEImm d8
  | .h, d8 => .ldHImm d8
  | .l, d8 => .ldLImm d8
  | .a, d8 => .ldAImm d8

/-- The rows `LD (..),A`. -/
def Instr.ofStoreA : IndMode → Instr
  | .bc => .ldIndBcA
  | .de => .ldIndDeA
  | .hlInc => .ldIndHlIncA
  | .hlDec => .ldIndHlDecA

/-- The rows `LD A,(..)`. -/
def Instr.ofLoadA : IndMode → Instr
  | .bc => .ldAIndBc
  | .de => .ldAIndDe
  | .hlInc => .ldAIndHlInc
  | .hlDec => .ldAIndHlDec

/-- The rows `LD rr,d16` and `LD SP,d16`. -/
def Instr.ofLdPairImm : Reg16 → Word → Instr
  | .bc, d16 => .ldBcImm16 d16
  | .de, d16 => .ldDeImm16 d16
  | .hl, d16 => .ldHlImm16 d16
  | .sp, d16 => .ldSpImm16 d16

/-- The rows `alu A,r`. -/
def Instr.ofAluReg : AluOp → Reg8 → Instr
  | .add, .b => .addAB
  | .add, .c => .addAC
  | .add, .d => .addAD
  | .add, .e => .addAE
  | .add, .h => .addAH
  | .add, .l => .addAL
  | .add, .a => .addAA
  | .adc, .b => .adcAB
  | .adc, .c => .adcAC
  | .adc, .d => .adcAD
  | .adc, .e => .adcAE
  | .adc, .h => .adcAH
  | .adc, .l => .adcAL
  | .adc, .a => .adcAA
  | .sub, .b => .subAB
  | .sub, .c => .subAC
  | .sub, .d => .subAD
  | .sub, .e => .subAE
  | .sub, .h => .subAH
  | .sub, .l => .subAL
  | .sub, .a => .subAA
  | .sbc, .b => .sbcAB
  | .sbc, .c => .sbcAC
  | .sbc, .d => .sbcAD
  | .sbc, .e => .sbcAE
  | .sbc, .h => .sbcAH
  | .sbc, .l => .sbcAL
  | .sbc, .a => .sbcAA
  | .and, .b => .andAB
  | .and, .c => .andAC
  | .and, .d => .andAD
  | .and, .e => .andAE
  | .and, .h => .andAH
  | .and, .l => .andAL
  | .and, .a => .andAA
  | .xor, .b => .xorAB
  | .xor, .c => .xorAC
  | .xor, .d => .xorAD
  | .xor, .e => .xorAE
  | .xor, .h => .xorAH
  | .xor, .l => .xorAL
  | .xor, .a => .xorAA
  | .or, .b => .orAB
  | .or, .c => .orAC
  | .or, .d => .orAD
  | .or, .e => .orAE
  | .or, .h => .orAH
  | .or, .l => .orAL
  | .or, .a => .orAA
  | .cp, .b => .cpAB
  | .cp, .c => .cpAC
  | .cp, .d => .cpAD
  | .cp, .e => .cpAE
  | .cp, .h => .cpAH
  | .cp, .l => .cpAL
  | .cp, .a => .cpAA

/-- The rows `alu A,(HL)`. -/
def Instr.ofAluInd : AluOp → Instr
  | .add => .addAIndHl
  | .adc => .adcAIndHl
  | .sub => .subAIndHl
  | .sbc => .sbcAIndHl
  | .and => .andAIndHl
  | .xor => .xorAIndHl
  | .or => .orAIndHl
  | .cp => .cpAIndHl

/-- The rows `alu A,d8`. -/
def Instr.ofAluImm : AluOp → Byte → Instr
  | .add, d8 => .addAImm d8
  | .adc, d8 => .adcAImm d8
  | .sub, d8 => .subAImm d8
  | .sbc, d8 => .sbcAImm d8
  | .and, d8 => .andAImm d8
  | .xor, d8 => .xorAImm d8
  | .or, d8 => .orAImm d8
  | .cp, d8 => .cpAImm d8

/-- The rows `ADD HL,rr`. -/
def Instr.ofAddHl : Reg16 → Instr
  | .bc => .addHlBc
  | .de => .addHlDe
  | .hl => .addHlHl
  | .sp => .addHlSp

/-- The row `INC r`. -/
def Instr.ofIncReg : Reg8 → Instr
  | .b => .incB
  | .c => .incC
  | .d => .incD
  | .e => .incE
  | .h => .incH
  | .l => .incL
  | .a => .incA

/-- The row `INC rr`. -/
def Instr.ofIncPair : Reg16 → Instr
  | .bc => .incBc
  | .de => .incDe
  | .hl => .incHl
  | .sp => .incSp

/-- The row `DEC r`. -/
def Instr.ofDecReg : Reg8 → Instr
  | .b => .decB
  | .c => .decC
  | .d => .decD
  | .e => .decE
  | .h => .decH
  | .l => .decL
  | .a => .decA

/-- The row `DEC rr`. -/
def Instr.ofDecPair : Reg16 → Instr
  | .bc => .decBc
  | .de => .decDe
  | .hl => .decHl
  | .sp => .decSp

/-- The rows `JR cc,r8`. -/
def Instr.ofJrIf : Cond → Int → Instr
  | .nz, off => .jrNz off
  | .z, off => .jrZ off
  | .nc, off => .jrNc off
  | .c, off => .jrC off

/-- The instruction of a form: the inverse of `Instr.shape`. -/
def Shape.instr : Shape → Instr
  | .ldRegReg dst src => Instr.ofLdRegReg dst src
  | .ldRegInd dst => Instr.ofLdRegInd dst
  | .ldIndReg src => Instr.ofLdIndReg src
  | .ldRegImm dst d8 => Instr.ofLdRegImm dst d8
  | .ldIndImm d8 => .ldIndHlImm d8
  | .storeA m => Instr.ofStoreA m
  | .loadA m => Instr.ofLoadA m
  | .ldPairImm rr d16 => Instr.ofLdPairImm rr d16
  | .aluReg op src => Instr.ofAluReg op src
  | .aluInd op => Instr.ofAluInd op
  | .aluImm op d8 => Instr.ofAluImm op d8
  | .addHl rr => Instr.ofAddHl rr
  | .incReg r => Instr.ofIncReg r
  | .incInd => .incIndHl
  | .decReg r => Instr.ofDecReg r
  | .decInd => .decIndHl
  | .incPair rr => Instr.ofIncPair rr
  | .decPair rr => Instr.ofDecPair rr
  | .rlca => .rlca
  | .rrca => .rrca
  | .rla => .rla
  | .rra => .rra
  | .jr off => .jr off
  | .jrIf cc off => Instr.ofJrIf cc off
  | .daa => .daa
  | .cpl => .cpl
  | .scf => .scf
  | .ccf => .ccf
  | .halt => .halt
  | .stop => .stop

end Sys2Proof
end

