-- ==== Sys2Proof/Machine/State.lean ====
section
/-! DEFINITION. The state of one CPU instance and of the byte store behind its Memory Interface (10_state.md section 1, 20_memory.md R42), the reasons a step stops, and the state after construction. -/

namespace Sys2Proof.Machine

/-- ClockState: the cost of the most recent executed instruction (10_state.md R19).
The fields are naturals (decision D18, log 16). -/
structure ClockState where
  /-- Machine cycles. -/
  m : Nat
  /-- T-states. -/
  t : Nat
  deriving DecidableEq, Repr

/-- Everything the spec gives the machine (10_state.md section 1, R28).
BC, DE, HL and AF are views, not storage (R20). -/
structure State where
  /-- The accumulator (R10, R11). -/
  a : Byte
  b : Byte
  c : Byte
  d : Byte
  e : Byte
  h : Byte
  l : Byte
  /-- The flag register: Zero 7, Subtract 6, HalfCarry 5, Carry 4, bits 3:0 hardwired 0 (R12). -/
  f : Byte
  /-- The program counter (R13). -/
  pc : Word
  /-- The stack pointer (R16). -/
  sp : Word
  /-- ClockState (R19). -/
  clk : ClockState
  /-- The run-state boolean that gates `step` (R21). -/
  halted : Bool
  /-- The run-state boolean that STOP sets; it gates nothing (R22). -/
  stopped : Bool
  /-- Interrupt master enable; no rule reads it (R23). -/
  ime : Bool
  /-- The byte store (20_memory.md R42): addresses strictly rising, no entry equal to `Config.memFill`. -/
  mem : List Host.Cell
  deriving DecidableEq, Repr

/-- Why a step stops. -/
inductive Fault where
  /-- IllegalOpcode (60_exceptions.md R200 to R203), raised by the sequencer alone, in `Sys2Proof.Machine.step`, on an opcode byte with no handler.
  `opcode` and `pcFetch` are the two values the condition carries.
  `left` is the state the step leaves (R202): the outcome type of the host's interface has no other place for it (log 10).
  Safe: the model stops where a host could call `step` again (R203). -/
  | illegalOpcode (opcode : Byte) (pcFetch : Word) (left : State)
  deriving DecidableEq, Repr

/-- Why an instruction has no meaning. -/
inductive Refusal where
  /-- The arm of an instruction not modelled yet, raised by an arm of `exec` only.
  Safe; no arm uses it now: all 198 instructions have their meaning. -/
  | notModelled (mnemonic : String)
  deriving DecidableEq, Repr

/-- The outcome of an instruction or a step. -/
abbrev Result := Host.Outcome State Fault Refusal

/-- The state after construction, the only reset (10_state.md R31; 70_reset_and_hazards.md R230).
`halted` and `stopped` are false and F[3:0] is 0, as R31 says.
DESIGN CHOICE, unsafe (log 1, log 2): every OPEN parameter has the spec's default, zero and `ime` false, and memory lists nothing.
`construct` in Machine/HostIf.lean takes the parameters as arguments. -/
def State.reset : State :=
  { a := Config.initDefault.a, b := Config.initDefault.b, c := Config.initDefault.c,
    d := Config.initDefault.d, e := Config.initDefault.e, h := Config.initDefault.h,
    l := Config.initDefault.l, f := Config.initDefault.f &&& 0xF0#8,
    pc := Config.initDefault.pc, sp := Config.initDefault.sp,
    clk := { m := Config.initDefault.m, t := Config.initDefault.t },
    halted := false, stopped := false, ime := Config.initDefault.ime, mem := [] }

end Sys2Proof.Machine
end

