-- ==== Sys2Proof/Machine/Ops.lean ====
section
/-! DEFINITION. The named operations on the byte store, the registers, the flag register and the clock, and the raising of IllegalOpcode. Every read and write of the state goes through these. -/

namespace Sys2Proof.Machine

/-! ### The byte store (20_memory.md R41, R42) -/

/-- What the store holds at an address; `Config.memFill` where nothing is listed. -/
def Mem.read : List Host.Cell → Nat → Byte
  | [], _ => Config.memFill
  | (k, v) :: rest, a => if a = k then v else Mem.read rest a

/-- The cell law of R42: the cell at `a` holds `v`, every other cell what it held.
The canonical form is kept: rising addresses, and no entry equal to `Config.memFill`. -/
def Mem.write : List Host.Cell → Nat → Byte → List Host.Cell
  | [], a, v => if v = Config.memFill then [] else [(a, v)]
  | (k, w) :: rest, a, v =>
    if a < k then (if v = Config.memFill then (k, w) :: rest else (a, v) :: (k, w) :: rest)
    else if a = k then (if v = Config.memFill then rest else (a, v) :: rest)
    else (k, w) :: Mem.write rest a v

/-- The canonical form of a store whose addresses are all at least `lo`. -/
def Mem.wfFrom (lo : Nat) : List Host.Cell → Bool
  | [] => true
  | (k, v) :: rest =>
    decide (lo ≤ k) && decide (k < Config.memSize) && decide (v ≠ Config.memFill) &&
      Mem.wfFrom (k + 1) rest

/-- The canonical form: addresses strictly rising and below `Config.memSize`, no entry equal to `Config.memFill`. -/
def Mem.wf (m : List Host.Cell) : Bool := Mem.wfFrom 0 m

/-- `MemRead(addr, 1)` (R41). -/
def State.readByte (s : State) (addr : Word) : Byte := Mem.read s.mem addr.toNat

/-- `MemWrite(addr, 1, v)` (R41, R53). -/
def State.writeByte (s : State) (addr : Word) (v : Byte) : State :=
  { s with mem := Mem.write s.mem addr.toNat v }

/-! ### Registers (10_state.md R10 to R16, R20) -/

/-- `x[r]` for an eight-bit register an operand can name. -/
def State.reg8 (s : State) : Reg8 → Byte
  | .b => s.b
  | .c => s.c
  | .d => s.d
  | .e => s.e
  | .h => s.h
  | .l => s.l
  | .a => s.a

/-- `x[r] <- v` for an eight-bit register an operand can name. -/
def State.setReg8 (s : State) (r : Reg8) (v : Byte) : State :=
  match r with
  | .b => { s with b := v }
  | .c => { s with c := v }
  | .d => { s with d := v }
  | .e => { s with e := v }
  | .h => { s with h := v }
  | .l => { s with l := v }
  | .a => { s with a := v }

/-- `F <- v`: every write to F, by whatever path, stores `v & 0xF0` (R12; 00_scope.md R8). -/
def State.setF (s : State) (v : Byte) : State := { s with f := v &&& 0xF0#8 }

/-- `pc <- v` (R13). -/
def State.setPc (s : State) (v : Word) : State := { s with pc := v }

/-- `SP <- v` (R16). -/
def State.setSp (s : State) (v : Word) : State := { s with sp := v }

/-- Two bytes as a composite, the first the high one (R14). -/
def packPair (hi lo : Byte) : Word := hi ++ lo

/-- The high byte of a 16-bit value (R14). -/
def hiByte (v : Word) : Byte := v.extractLsb' 8 8

/-- The low byte of a 16-bit value (R14). -/
def loByte (v : Word) : Byte := v.extractLsb' 0 8

/-- The composite view BC (R14). -/
def State.bc (s : State) : Word := packPair s.b s.c

/-- The composite view DE (R14). -/
def State.de (s : State) : Word := packPair s.d s.e

/-- The composite view HL (R14). -/
def State.hl (s : State) : Word := packPair s.h s.l

/-- The composite view AF (R14). -/
def State.af (s : State) : Word := packPair s.a s.f

/-- `x[BC] <- v` (R14). -/
def State.setBc (s : State) (v : Word) : State := { s with b := hiByte v, c := loByte v }

/-- `x[DE] <- v` (R14). -/
def State.setDe (s : State) (v : Word) : State := { s with d := hiByte v, e := loByte v }

/-- `x[HL] <- v` (R14). -/
def State.setHl (s : State) (v : Word) : State := { s with h := hiByte v, l := loByte v }

/-- `x[AF] <- v`: A takes the high byte, F the low byte masked with 0xF0 (R15). -/
def State.setAf (s : State) (v : Word) : State := State.setF { s with a := hiByte v } (loByte v)

/-- `x[rr]` for a sixteen-bit operand (30_encoding.md R64, R75). -/
def State.reg16 (s : State) : Reg16 → Word
  | .bc => s.bc
  | .de => s.de
  | .hl => s.hl
  | .sp => s.sp

/-- `x[rr] <- v` for a sixteen-bit operand. -/
def State.setReg16 (s : State) (rr : Reg16) (v : Word) : State :=
  match rr with
  | .bc => s.setBc v
  | .de => s.setDe v
  | .hl => s.setHl v
  | .sp => s.setSp v

/-! ### The clock -/

/-- `clk <- (cost / 4, cost)`: the last action of every handler (10_state.md R19; 40_sequencer.md R87). -/
def State.setClock (s : State) (cost : Nat) : State := { s with clk := { m := cost / 4, t := cost } }

/-! ### The one exception -/

/-- Raising IllegalOpcode (40_sequencer.md R83; 60_exceptions.md R200 to R203): the condition carries the opcode and the address it was fetched from.
Nothing is saved, no vector is fetched and no handler runs: `left` is the state after the opcode fetch, PC advanced and nothing else.
There is no return from it: no instruction returns from a trap (R208). -/
def raiseIllegalOpcode (opcode : Byte) (pcFetch : Word) (left : State) : Result :=
  .fault (.illegalOpcode opcode pcFetch left)

end Sys2Proof.Machine
end

