-- ==== Sys2Proof/Machine/Flags.lean ====
section
/-! DEFINITION. The flag register by its four named bits, the flag encoder, and every computation of a result with its flags: 8-bit addition, subtraction and logic, increment and decrement, 16-bit addition, rotation, decimal adjustment. -/

namespace Sys2Proof.Machine

/-- The four named bits of F (10_state.md R12).
A closed type: the spec's ProgrammingError, an unrecognised flag name, cannot be written (60_exceptions.md R204). -/
inductive Flag where
  | zero | subtract | halfCarry | carry
  deriving DecidableEq, Repr

/-- The bit of F that holds a flag (R12). -/
def Flag.bit : Flag → Nat
  | .zero => 7
  | .subtract => 6
  | .halfCarry => 5
  | .carry => 4

/-- `flag[x]`: one flag bit of F (00_scope.md R8). -/
def State.flag (s : State) (x : Flag) : Bool := s.f.getLsbD x.bit

/-- `setFlag(x, value)` (R17): sets or clears the bit and leaves the other named bits.
It is a write to F, so bits 3:0 stay 0 (R12, log 13). -/
def State.setFlag (s : State) (x : Flag) (value : Bool) : State :=
  if value then s.setF (s.f ||| 1#8 <<< x.bit) else s.setF (s.f &&& ~~~(1#8 <<< x.bit))

/-- The four flag writes of an instruction that lists all four, in the order of the spec's Operation blocks. -/
def State.setFlags (s : State) (z n h c : Bool) : State :=
  (((s.setFlag .zero z).setFlag .subtract n).setFlag .halfCarry h).setFlag .carry c

/-- Three flag writes, Carry kept (44_incdec.md). -/
def State.setFlagsZNH (s : State) (z n h : Bool) : State :=
  ((s.setFlag .zero z).setFlag .subtract n).setFlag .halfCarry h

/-- Three flag writes, Zero kept (43_alu16.md; 47_daa_cpl_scf_ccf.md R182, R183). -/
def State.setFlagsNHC (s : State) (n h c : Bool) : State :=
  ((s.setFlag .subtract n).setFlag .halfCarry h).setFlag .carry c

/-- A result with the flags it gives: what `add8`, `sub8` and the logic functions return (42_alu8.md R121 to R123). -/
structure AluOut where
  result : Byte
  z : Bool
  n : Bool
  h : Bool
  c : Bool
  deriving DecidableEq, Repr

/-- The low nibble of a byte, `v & 0xF`, as an integer. -/
def lowNibble (v : Byte) : Nat := v.toNat % 16

/-- The add function (R121), over unbounded integers. -/
def add8 (a op : Byte) (cy : Bool) : AluOut :=
  let sum := a.toNat + op.toNat + cy.toNat
  let result := BitVec.ofNat 8 sum
  { result := result
    z := decide (result = 0#8)
    n := false
    h := decide (lowNibble a + lowNibble op + cy.toNat > 0xF)
    c := decide (sum > 0xFF) }

/-- The subtract function (R122).
The right sides of the two borrow tests are unbounded integers (90_conflicts.md C8). -/
def sub8 (a op : Byte) (cy : Bool) : AluOut :=
  let result := BitVec.ofInt 8 ((a.toNat : Int) - op.toNat - cy.toNat)
  { result := result
    z := decide (result = 0#8)
    n := true
    h := decide (lowNibble a < lowNibble op + cy.toNat)
    c := decide (a.toNat < op.toNat + cy.toNat) }

/-- Bitwise and (R123): H is set whatever the result. -/
def and8 (a op : Byte) : AluOut :=
  { result := a &&& op, z := decide (a &&& op = 0#8), n := false, h := true, c := false }

/-- Bitwise exclusive or (R123). -/
def xor8 (a op : Byte) : AluOut :=
  { result := a ^^^ op, z := decide (a ^^^ op = 0#8), n := false, h := false, c := false }

/-- Bitwise or (R123). -/
def or8 (a op : Byte) : AluOut :=
  { result := a ||| op, z := decide (a ||| op = 0#8), n := false, h := false, c := false }

/-- The function of an operation: the carry takes part in ADC and SBC only (R120). -/
def alu8 (op : AluOp) (a v : Byte) (cy : Bool) : AluOut :=
  match op with
  | .add => add8 a v false
  | .adc => add8 a v cy
  | .sub => sub8 a v false
  | .sbc => sub8 a v cy
  | .and => and8 a v
  | .xor => xor8 a v
  | .or => or8 a v
  | .cp => sub8 a v false

/-- Whether an operation writes its result to A: all but CP (R120, R145). -/
def aluWritesA (op : AluOp) : Bool :=
  match op with
  | .add | .adc | .sub | .sbc | .and | .xor | .or => true
  | .cp => false

/-- The half-carry of an 8-bit increment (44_incdec.md R155). -/
def incHalfCarry (v : Byte) : Bool := decide (lowNibble v + 1 > 0xF)

/-- The half-carry of an 8-bit decrement (R157). -/
def decHalfCarry (v : Byte) : Bool := decide (lowNibble v < 1)

/-- The half-carry of a 16-bit addition: the carry out of bit 11 (43_alu16.md R150, log 6). -/
def add16HalfCarry (a b : Word) : Bool := decide (a.toNat % 0x1000 + b.toNat % 0x1000 > 0x0FFF)

/-- The carry of a 16-bit addition: the carry out of bit 15 (R150). -/
def add16Carry (a b : Word) : Bool := decide (a.toNat + b.toNat > 0xFFFF)

/-- A one-bit rotation to the left with `b` entering at bit 0 (45_rotate_a.md R165, R167). -/
def shiftInLeft (v : Byte) (b : Bool) : Byte := (v <<< 1) ||| (BitVec.ofBool b).setWidth 8

/-- A one-bit rotation to the right with `b` entering at bit 7 (R166, R168). -/
def shiftInRight (v : Byte) (b : Bool) : Byte := (v >>> 1) ||| ((BitVec.ofBool b).setWidth 8 <<< 7)

/-- Whether DAA applies the 0x06 term (47_daa_cpl_scf_ccf.md R180, log 4). -/
def daaLow (a : Byte) (n h : Bool) : Bool := h || (!n && decide (lowNibble a > 0x09))

/-- Whether DAA applies the 0x60 term, which is its Carry out (R180). -/
def daaHigh (a : Byte) (n c : Bool) : Bool := c || (!n && decide (a.toNat > 0x99))

/-- The adjustment of DAA (R180). -/
def daaAdjust (a : Byte) (n h c : Bool) : Byte :=
  (if daaLow a n h then 0x06#8 else 0x00#8) ||| (if daaHigh a n c then 0x60#8 else 0x00#8)

/-- The result of DAA: the adjustment added after an addition, subtracted after a subtraction (R180). -/
def daaResult (a : Byte) (n h c : Bool) : Byte :=
  if n then a - daaAdjust a n h c else a + daaAdjust a n h c

end Sys2Proof.Machine
end

