-- ==== Sys2Proof/Machine/Operands.lean ====
section
/-! DEFINITION. The operand forms of 30_encoding.md R75: the memory byte at HL, the address registers with their post-modification, the conditions. -/

namespace Sys2Proof.Machine

/-- `(HL)` as a source (R75). -/
def State.readInd (s : State) : Byte := s.readByte s.hl

/-- `(HL)` as a destination (R75). -/
def State.writeInd (s : State) (v : Byte) : State := s.writeByte s.hl v

/-- The address of an accumulator load or store (R64, R75): the register before any change. -/
def State.indAddr (s : State) (m : IndMode) : Word :=
  match m with
  | .bc => s.bc
  | .de => s.de
  | .hlInc => s.hl
  | .hlDec => s.hl

/-- The change of the address register after the access: HL + 1 or HL - 1 modulo 65536 (41_load_store.md R110 to R113), none for BC and DE. -/
def State.indPost (s : State) (m : IndMode) : State :=
  match m with
  | .bc => s
  | .de => s
  | .hlInc => s.setHl (s.hl + 1#16)
  | .hlDec => s.setHl (s.hl - 1#16)

/-- A condition of a relative jump (30_encoding.md R65). -/
def State.cond (s : State) (cc : Cond) : Bool :=
  match cc with
  | .nz => !s.flag .zero
  | .z => s.flag .zero
  | .nc => !s.flag .carry
  | .c => s.flag .carry

end Sys2Proof.Machine
end

