-- ==== Sys2Proof/Machine/Alu16.lean ====
section
/-! DEFINITION. The 16-bit addition (43_alu16.md R150). -/

namespace Sys2Proof.Machine

/-- `ADD HL,rr` (R150): N cleared, H from bit 11, C from bit 15, Z kept, and the sum modulo 65536 to HL. -/
def addHl (rr : Reg16) (s : State) : State :=
  let a := s.hl
  let b := s.reg16 rr
  (s.setFlagsNHC false (add16HalfCarry a b) (add16Carry a b)).setHl (a + b)

/-- `ADD HL,BC` (R150). -/
def execAddHlBc (s : State) : Result := .next ((addHl .bc s).setClock 8)

/-- `ADD HL,DE` (R150). -/
def execAddHlDe (s : State) : Result := .next ((addHl .de s).setClock 8)

/-- `ADD HL,HL` (R150). -/
def execAddHlHl (s : State) : Result := .next ((addHl .hl s).setClock 8)

/-- `ADD HL,SP` (R150). -/
def execAddHlSp (s : State) : Result := .next ((addHl .sp s).setClock 8)

end Sys2Proof.Machine
end

