-- ==== Sys2Proof/Machine/Alu8.lean ====
section
/-! DEFINITION. The 8-bit arithmetic and logic family (42_alu8.md R120 to R147): eight operations, each on a register, the byte at HL or an immediate. -/

namespace Sys2Proof.Machine

/-- The operation on A and an operand (R120): all four flags written, the result written to A unless the operation is CP. -/
def aluApply (op : AluOp) (v : Byte) (s : State) : State :=
  let r := alu8 op s.a v (s.flag .carry)
  let s' := if aluWritesA op then s.setReg8 .a r.result else s
  s'.setFlags r.z r.n r.h r.c

/-- The register form: `op = x[r]` (R120). -/
def aluReg (op : AluOp) (src : Reg8) (s : State) : State := aluApply op (s.reg8 src) s

/-- The memory form: `op = MemRead(x[HL], 1)` (R120). -/
def aluInd (op : AluOp) (s : State) : State := aluApply op s.readInd s

/-- The immediate form: `op = d8` (R120). -/
def aluImm (op : AluOp) (d8 : Byte) (s : State) : State := aluApply op d8 s

/-- `ADD A,B` (R124). -/
def execAddAB (s : State) : Result := .next ((aluReg .add .b s).setClock 4)

/-- `ADD A,C` (R124). -/
def execAddAC (s : State) : Result := .next ((aluReg .add .c s).setClock 4)

/-- `ADD A,D` (R124). -/
def execAddAD (s : State) : Result := .next ((aluReg .add .d s).setClock 4)

/-- `ADD A,E` (R124). -/
def execAddAE (s : State) : Result := .next ((aluReg .add .e s).setClock 4)

/-- `ADD A,H` (R124). -/
def execAddAH (s : State) : Result := .next ((aluReg .add .h s).setClock 4)

/-- `ADD A,L` (R124). -/
def execAddAL (s : State) : Result := .next ((aluReg .add .l s).setClock 4)

/-- `ADD A,(HL)` (R125). -/
def execAddAIndHl (s : State) : Result := .next ((aluInd .add s).setClock 8)

/-- `ADD A,A` (R124). -/
def execAddAA (s : State) : Result := .next ((aluReg .add .a s).setClock 4)

/-- `ADC A,B` (R127). -/
def execAdcAB (s : State) : Result := .next ((aluReg .adc .b s).setClock 4)

/-- `ADC A,C` (R127). -/
def execAdcAC (s : State) : Result := .next ((aluReg .adc .c s).setClock 4)

/-- `ADC A,D` (R127). -/
def execAdcAD (s : State) : Result := .next ((aluReg .adc .d s).setClock 4)

/-- `ADC A,E` (R127). -/
def execAdcAE (s : State) : Result := .next ((aluReg .adc .e s).setClock 4)

/-- `ADC A,H` (R127). -/
def execAdcAH (s : State) : Result := .next ((aluReg .adc .h s).setClock 4)

/-- `ADC A,L` (R127). -/
def execAdcAL (s : State) : Result := .next ((aluReg .adc .l s).setClock 4)

/-- `ADC A,(HL)` (R128). -/
def execAdcAIndHl (s : State) : Result := .next ((aluInd .adc s).setClock 8)

/-- `ADC A,A` (R127). -/
def execAdcAA (s : State) : Result := .next ((aluReg .adc .a s).setClock 4)

/-- `SUB A,B` (R130). -/
def execSubAB (s : State) : Result := .next ((aluReg .sub .b s).setClock 4)

/-- `SUB A,C` (R130). -/
def execSubAC (s : State) : Result := .next ((aluReg .sub .c s).setClock 4)

/-- `SUB A,D` (R130). -/
def execSubAD (s : State) : Result := .next ((aluReg .sub .d s).setClock 4)

/-- `SUB A,E` (R130). -/
def execSubAE (s : State) : Result := .next ((aluReg .sub .e s).setClock 4)

/-- `SUB A,H` (R130). -/
def execSubAH (s : State) : Result := .next ((aluReg .sub .h s).setClock 4)

/-- `SUB A,L` (R130). -/
def execSubAL (s : State) : Result := .next ((aluReg .sub .l s).setClock 4)

/-- `SUB A,(HL)` (R131). -/
def execSubAIndHl (s : State) : Result := .next ((aluInd .sub s).setClock 8)

/-- `SUB A,A` (R130). -/
def execSubAA (s : State) : Result := .next ((aluReg .sub .a s).setClock 4)

/-- `SBC A,B` (R133). -/
def execSbcAB (s : State) : Result := .next ((aluReg .sbc .b s).setClock 4)

/-- `SBC A,C` (R133). -/
def execSbcAC (s : State) : Result := .next ((aluReg .sbc .c s).setClock 4)

/-- `SBC A,D` (R133). -/
def execSbcAD (s : State) : Result := .next ((aluReg .sbc .d s).setClock 4)

/-- `SBC A,E` (R133). -/
def execSbcAE (s : State) : Result := .next ((aluReg .sbc .e s).setClock 4)

/-- `SBC A,H` (R133). -/
def execSbcAH (s : State) : Result := .next ((aluReg .sbc .h s).setClock 4)

/-- `SBC A,L` (R133). -/
def execSbcAL (s : State) : Result := .next ((aluReg .sbc .l s).setClock 4)

/-- `SBC A,(HL)` (R134). -/
def execSbcAIndHl (s : State) : Result := .next ((aluInd .sbc s).setClock 8)

/-- `SBC A,A` (R133). -/
def execSbcAA (s : State) : Result := .next ((aluReg .sbc .a s).setClock 4)

/-- `AND A,B` (R136). -/
def execAndAB (s : State) : Result := .next ((aluReg .and .b s).setClock 4)

/-- `AND A,C` (R136). -/
def execAndAC (s : State) : Result := .next ((aluReg .and .c s).setClock 4)

/-- `AND A,D` (R136). -/
def execAndAD (s : State) : Result := .next ((aluReg .and .d s).setClock 4)

/-- `AND A,E` (R136). -/
def execAndAE (s : State) : Result := .next ((aluReg .and .e s).setClock 4)

/-- `AND A,H` (R136). -/
def execAndAH (s : State) : Result := .next ((aluReg .and .h s).setClock 4)

/-- `AND A,L` (R136). -/
def execAndAL (s : State) : Result := .next ((aluReg .and .l s).setClock 4)

/-- `AND A,(HL)` (R137). -/
def execAndAIndHl (s : State) : Result := .next ((aluInd .and s).setClock 8)

/-- `AND A,A` (R136). -/
def execAndAA (s : State) : Result := .next ((aluReg .and .a s).setClock 4)

/-- `XOR A,B` (R139). -/
def execXorAB (s : State) : Result := .next ((aluReg .xor .b s).setClock 4)

/-- `XOR A,C` (R139). -/
def execXorAC (s : State) : Result := .next ((aluReg .xor .c s).setClock 4)

/-- `XOR A,D` (R139). -/
def execXorAD (s : State) : Result := .next ((aluReg .xor .d s).setClock 4)

/-- `XOR A,E` (R139). -/
def execXorAE (s : State) : Result := .next ((aluReg .xor .e s).setClock 4)

/-- `XOR A,H` (R139). -/
def execXorAH (s : State) : Result := .next ((aluReg .xor .h s).setClock 4)

/-- `XOR A,L` (R139). -/
def execXorAL (s : State) : Result := .next ((aluReg .xor .l s).setClock 4)

/-- `XOR A,(HL)` (R140). -/
def execXorAIndHl (s : State) : Result := .next ((aluInd .xor s).setClock 8)

/-- `XOR A,A` (R139). -/
def execXorAA (s : State) : Result := .next ((aluReg .xor .a s).setClock 4)

/-- `OR A,B` (R142). -/
def execOrAB (s : State) : Result := .next ((aluReg .or .b s).setClock 4)

/-- `OR A,C` (R142). -/
def execOrAC (s : State) : Result := .next ((aluReg .or .c s).setClock 4)

/-- `OR A,D` (R142). -/
def execOrAD (s : State) : Result := .next ((aluReg .or .d s).setClock 4)

/-- `OR A,E` (R142). -/
def execOrAE (s : State) : Result := .next ((aluReg .or .e s).setClock 4)

/-- `OR A,H` (R142). -/
def execOrAH (s : State) : Result := .next ((aluReg .or .h s).setClock 4)

/-- `OR A,L` (R142). -/
def execOrAL (s : State) : Result := .next ((aluReg .or .l s).setClock 4)

/-- `OR A,(HL)` (R143). -/
def execOrAIndHl (s : State) : Result := .next ((aluInd .or s).setClock 8)

/-- `OR A,A` (R142). -/
def execOrAA (s : State) : Result := .next ((aluReg .or .a s).setClock 4)

/-- `CP A,B` (R145). -/
def execCpAB (s : State) : Result := .next ((aluReg .cp .b s).setClock 4)

/-- `CP A,C` (R145). -/
def execCpAC (s : State) : Result := .next ((aluReg .cp .c s).setClock 4)

/-- `CP A,D` (R145). -/
def execCpAD (s : State) : Result := .next ((aluReg .cp .d s).setClock 4)

/-- `CP A,E` (R145). -/
def execCpAE (s : State) : Result := .next ((aluReg .cp .e s).setClock 4)

/-- `CP A,H` (R145). -/
def execCpAH (s : State) : Result := .next ((aluReg .cp .h s).setClock 4)

/-- `CP A,L` (R145). -/
def execCpAL (s : State) : Result := .next ((aluReg .cp .l s).setClock 4)

/-- `CP A,(HL)` (R146). -/
def execCpAIndHl (s : State) : Result := .next ((aluInd .cp s).setClock 8)

/-- `CP A,A` (R145). -/
def execCpAA (s : State) : Result := .next ((aluReg .cp .a s).setClock 4)

/-- `ADD A,d8` (R126). -/
def execAddAImm (d8 : Byte) (s : State) : Result := .next ((aluImm .add d8 s).setClock 8)

/-- `ADC A,d8` (R129). -/
def execAdcAImm (d8 : Byte) (s : State) : Result := .next ((aluImm .adc d8 s).setClock 8)

/-- `SUB A,d8` (R132). -/
def execSubAImm (d8 : Byte) (s : State) : Result := .next ((aluImm .sub d8 s).setClock 8)

/-- `SBC A,d8` (R135). -/
def execSbcAImm (d8 : Byte) (s : State) : Result := .next ((aluImm .sbc d8 s).setClock 8)

/-- `AND A,d8` (R138). -/
def execAndAImm (d8 : Byte) (s : State) : Result := .next ((aluImm .and d8 s).setClock 8)

/-- `XOR A,d8` (R141). -/
def execXorAImm (d8 : Byte) (s : State) : Result := .next ((aluImm .xor d8 s).setClock 8)

/-- `OR A,d8` (R144). -/
def execOrAImm (d8 : Byte) (s : State) : Result := .next ((aluImm .or d8 s).setClock 8)

/-- `CP A,d8` (R147). -/
def execCpAImm (d8 : Byte) (s : State) : Result := .next ((aluImm .cp d8 s).setClock 8)

end Sys2Proof.Machine
end

