-- ==== Sys2Proof/Machine/Daa.lean ====
section
/-! DEFINITION. DAA (47_daa_cpl_scf_ccf.md R180). -/

namespace Sys2Proof.Machine

/-- DAA (R180): every test uses the values before the instruction; Z from the result, H cleared, Carry the 0x60 term, N kept. -/
def decimalAdjust (s : State) : State :=
  let n := s.flag .subtract
  let h := s.flag .halfCarry
  let c := s.flag .carry
  let result := daaResult s.a n h c
  (((s.setReg8 .a result).setFlag .zero (decide (result = 0#8))).setFlag .halfCarry false).setFlag
    .carry (daaHigh s.a n c)

/-- `DAA` (R180). -/
def execDaa (s : State) : Result := .next ((decimalAdjust s).setClock 4)

end Sys2Proof.Machine
end

