-- ==== Sys2Proof/Machine/FlagOps.lean ====
section
/-! DEFINITION. CPL, SCF and CCF (47_daa_cpl_scf_ccf.md R181 to R183). -/

namespace Sys2Proof.Machine

/-- CPL (R181): A complemented, N and H set, Z and C kept. -/
def complementA (s : State) : State :=
  ((s.setReg8 .a (~~~s.a)).setFlag .subtract true).setFlag .halfCarry true

/-- SCF (R182): Carry set, N and H cleared, Z kept. -/
def setCarry (s : State) : State := s.setFlagsNHC false false true

/-- CCF (R183): Carry inverted, N and H cleared, Z kept. -/
def complementCarry (s : State) : State := s.setFlagsNHC false false (!s.flag .carry)

/-- `CPL` (R181). -/
def execCpl (s : State) : Result := .next ((complementA s).setClock 4)

/-- `SCF` (R182). -/
def execScf (s : State) : Result := .next ((setCarry s).setClock 4)

/-- `CCF` (R183). -/
def execCcf (s : State) : Result := .next ((complementCarry s).setClock 4)

end Sys2Proof.Machine
end

