-- ==== Sys2Proof/Machine/HaltStop.lean ====
section
/-! DEFINITION. HALT and STOP (48_halt_stop.md R185, R186). -/

namespace Sys2Proof.Machine

/-- `halted <- true` and nothing else (R185; decision D29). -/
def enterHalt (s : State) : State := { s with halted := true }

/-- `stopped <- true` and nothing else (R186; decision D29). -/
def enterStop (s : State) : State := { s with stopped := true }

/-- `STOP` (R186). -/
def execStop (s : State) : Result := .next ((enterStop s).setClock 4)

/-- `HALT` (R185). -/
def execHalt (s : State) : Result := .next ((enterHalt s).setClock 4)

end Sys2Proof.Machine
end

