-- ==== Sys2Proof/Machine/IncDec.lean ====
section
/-! DEFINITION. The increment and decrement family (44_incdec.md R155 to R160). The 8-bit forms write Z, N and H and keep C; the 16-bit forms write no flag. -/

namespace Sys2Proof.Machine

/-- `INC r` (R155). -/
def incReg (r : Reg8) (s : State) : State :=
  let v := s.reg8 r
  (s.setFlagsZNH (decide (v + 1#8 = 0#8)) false (incHalfCarry v)).setReg8 r (v + 1#8)

/-- `INC (HL)` (R156): one read, then one write, at the same address. -/
def incInd (s : State) : State :=
  let v := s.readInd
  (s.setFlagsZNH (decide (v + 1#8 = 0#8)) false (incHalfCarry v)).writeInd (v + 1#8)

/-- `DEC r` (R157). -/
def decReg (r : Reg8) (s : State) : State :=
  let v := s.reg8 r
  (s.setFlagsZNH (decide (v - 1#8 = 0#8)) true (decHalfCarry v)).setReg8 r (v - 1#8)

/-- `DEC (HL)` (R158): one read, then one write, at the same address. -/
def decInd (s : State) : State :=
  let v := s.readInd
  (s.setFlagsZNH (decide (v - 1#8 = 0#8)) true (decHalfCarry v)).writeInd (v - 1#8)

/-- `INC rr` (R159). -/
def incPair (rr : Reg16) (s : State) : State := s.setReg16 rr (s.reg16 rr + 1#16)

/-- `DEC rr` (R160). -/
def decPair (rr : Reg16) (s : State) : State := s.setReg16 rr (s.reg16 rr - 1#16)

/-- `INC BC` (R159). -/
def execIncBc (s : State) : Result := .next ((incPair .bc s).setClock 8)

/-- `INC B` (R155). -/
def execIncB (s : State) : Result := .next ((incReg .b s).setClock 4)

/-- `DEC B` (R157). -/
def execDecB (s : State) : Result := .next ((decReg .b s).setClock 4)

/-- `DEC BC` (R160). -/
def execDecBc (s : State) : Result := .next ((decPair .bc s).setClock 8)

/-- `INC C` (R155). -/
def execIncC (s : State) : Result := .next ((incReg .c s).setClock 4)

/-- `DEC C` (R157). -/
def execDecC (s : State) : Result := .next ((decReg .c s).setClock 4)

/-- `INC DE` (R159). -/
def execIncDe (s : State) : Result := .next ((incPair .de s).setClock 8)

/-- `INC D` (R155). -/
def execIncD (s : State) : Result := .next ((incReg .d s).setClock 4)

/-- `DEC D` (R157). -/
def execDecD (s : State) : Result := .next ((decReg .d s).setClock 4)

/-- `DEC DE` (R160). -/
def execDecDe (s : State) : Result := .next ((decPair .de s).setClock 8)

/-- `INC E` (R155). -/
def execIncE (s : State) : Result := .next ((incReg .e s).setClock 4)

/-- `DEC E` (R157). -/
def execDecE (s : State) : Result := .next ((decReg .e s).setClock 4)

/-- `INC HL` (R159). -/
def execIncHl (s : State) : Result := .next ((incPair .hl s).setClock 8)

/-- `INC H` (R155). -/
def execIncH (s : State) : Result := .next ((incReg .h s).setClock 4)

/-- `DEC H` (R157). -/
def execDecH (s : State) : Result := .next ((decReg .h s).setClock 4)

/-- `DEC HL` (R160). -/
def execDecHl (s : State) : Result := .next ((decPair .hl s).setClock 8)

/-- `INC L` (R155). -/
def execIncL (s : State) : Result := .next ((incReg .l s).setClock 4)

/-- `DEC L` (R157). -/
def execDecL (s : State) : Result := .next ((decReg .l s).setClock 4)

/-- `INC SP` (R159). -/
def execIncSp (s : State) : Result := .next ((incPair .sp s).setClock 8)

/-- `INC (HL)` (R156). -/
def execIncIndHl (s : State) : Result := .next ((incInd s).setClock 12)

/-- `DEC (HL)` (R158). -/
def execDecIndHl (s : State) : Result := .next ((decInd s).setClock 12)

/-- `DEC SP` (R160). -/
def execDecSp (s : State) : Result := .next ((decPair .sp s).setClock 8)

/-- `INC A` (R155). -/
def execIncA (s : State) : Result := .next ((incReg .a s).setClock 4)

/-- `DEC A` (R157). -/
def execDecA (s : State) : Result := .next ((decReg .a s).setClock 4)

end Sys2Proof.Machine
end

