-- ==== Sys2Proof/Machine/LoadStore.lean ====
section
/-! DEFINITION. The load and store family (41_load_store.md R100 to R115): 8-bit and 16-bit loads, loads and stores through HL, BC, DE, and HL with post-modification. No instruction of the family writes a flag (R100). -/

namespace Sys2Proof.Machine

/-- `x[r] <- x[r']` (R101). -/
def ldRegReg (dst src : Reg8) (s : State) : State := s.setReg8 dst (s.reg8 src)

/-- `x[r] <- MemRead(x[HL], 1)` (R102). -/
def ldRegInd (dst : Reg8) (s : State) : State := s.setReg8 dst s.readInd

/-- `MemWrite(x[HL], 1, x[r])` (R103). -/
def ldIndReg (src : Reg8) (s : State) : State := s.writeInd (s.reg8 src)

/-- `x[r] <- d8` (R104). -/
def ldRegImm (dst : Reg8) (d8 : Byte) (s : State) : State := s.setReg8 dst d8

/-- `MemWrite(x[HL], 1, d8)` (R105). -/
def ldIndImm (d8 : Byte) (s : State) : State := s.writeInd d8

/-- `MemWrite(a, 1, A)` at the address register's value, then its change (R106, R107, R110, R111). -/
def storeA (m : IndMode) (s : State) : State := (s.writeByte (s.indAddr m) s.a).indPost m

/-- `A <- MemRead(a, 1)` at the address register's value, then its change (R108, R109, R112, R113). -/
def loadA (m : IndMode) (s : State) : State := (s.setReg8 .a (s.readByte (s.indAddr m))).indPost m

/-- `x[rr] <- d16` (R114), `SP <- d16` (R115). -/
def ldPairImm (rr : Reg16) (d16 : Word) (s : State) : State := s.setReg16 rr d16

/-- `LD BC,d16` (R114). -/
def execLdBcImm16 (d16 : Word) (s : State) : Result := .next ((ldPairImm .bc d16 s).setClock 12)

/-- `LD (BC),A` (R106). -/
def execLdIndBcA (s : State) : Result := .next ((storeA .bc s).setClock 8)

/-- `LD B,d8` (R104). -/
def execLdBImm (d8 : Byte) (s : State) : Result := .next ((ldRegImm .b d8 s).setClock 8)

/-- `LD A,(BC)` (R108). -/
def execLdAIndBc (s : State) : Result := .next ((loadA .bc s).setClock 8)

/-- `LD C,d8` (R104). -/
def execLdCImm (d8 : Byte) (s : State) : Result := .next ((ldRegImm .c d8 s).setClock 8)

/-- `LD DE,d16` (R114). -/
def execLdDeImm16 (d16 : Word) (s : State) : Result := .next ((ldPairImm .de d16 s).setClock 12)

/-- `LD (DE),A` (R107). -/
def execLdIndDeA (s : State) : Result := .next ((storeA .de s).setClock 8)

/-- `LD D,d8` (R104). -/
def execLdDImm (d8 : Byte) (s : State) : Result := .next ((ldRegImm .d d8 s).setClock 8)

/-- `LD A,(DE)` (R109). -/
def execLdAIndDe (s : State) : Result := .next ((loadA .de s).setClock 8)

/-- `LD E,d8` (R104). -/
def execLdEImm (d8 : Byte) (s : State) : Result := .next ((ldRegImm .e d8 s).setClock 8)

/-- `LD HL,d16` (R114). -/
def execLdHlImm16 (d16 : Word) (s : State) : Result := .next ((ldPairImm .hl d16 s).setClock 12)

/-- `LD (HL+),A` (R110). -/
def execLdIndHlIncA (s : State) : Result := .next ((storeA .hlInc s).setClock 8)

/-- `LD H,d8` (R104). -/
def execLdHImm (d8 : Byte) (s : State) : Result := .next ((ldRegImm .h d8 s).setClock 8)

/-- `LD A,(HL+)` (R112). -/
def execLdAIndHlInc (s : State) : Result := .next ((loadA .hlInc s).setClock 8)

/-- `LD L,d8` (R104). -/
def execLdLImm (d8 : Byte) (s : State) : Result := .next ((ldRegImm .l d8 s).setClock 8)

/-- `LD SP,d16` (R115). -/
def execLdSpImm16 (d16 : Word) (s : State) : Result := .next ((ldPairImm .sp d16 s).setClock 12)

/-- `LD (HL-),A` (R111). -/
def execLdIndHlDecA (s : State) : Result := .next ((storeA .hlDec s).setClock 8)

/-- `LD (HL),d8` (R105). -/
def execLdIndHlImm (d8 : Byte) (s : State) : Result := .next ((ldIndImm d8 s).setClock 12)

/-- `LD A,(HL-)` (R113). -/
def execLdAIndHlDec (s : State) : Result := .next ((loadA .hlDec s).setClock 8)

/-- `LD A,d8` (R104). -/
def execLdAImm (d8 : Byte) (s : State) : Result := .next ((ldRegImm .a d8 s).setClock 8)

/-- `LD B,B` (R101). -/
def execLdBB (s : State) : Result := .next ((ldRegReg .b .b s).setClock 4)

/-- `LD B,C` (R101). -/
def execLdBC (s : State) : Result := .next ((ldRegReg .b .c s).setClock 4)

/-- `LD B,D` (R101). -/
def execLdBD (s : State) : Result := .next ((ldRegReg .b .d s).setClock 4)

/-- `LD B,E` (R101). -/
def execLdBE (s : State) : Result := .next ((ldRegReg .b .e s).setClock 4)

/-- `LD B,H` (R101). -/
def execLdBH (s : State) : Result := .next ((ldRegReg .b .h s).setClock 4)

/-- `LD B,L` (R101). -/
def execLdBL (s : State) : Result := .next ((ldRegReg .b .l s).setClock 4)

/-- `LD B,(HL)` (R102). -/
def execLdBIndHl (s : State) : Result := .next ((ldRegInd .b s).setClock 8)

/-- `LD B,A` (R101). -/
def execLdBA (s : State) : Result := .next ((ldRegReg .b .a s).setClock 4)

/-- `LD C,B` (R101). -/
def execLdCB (s : State) : Result := .next ((ldRegReg .c .b s).setClock 4)

/-- `LD C,C` (R101). -/
def execLdCC (s : State) : Result := .next ((ldRegReg .c .c s).setClock 4)

/-- `LD C,D` (R101). -/
def execLdCD (s : State) : Result := .next ((ldRegReg .c .d s).setClock 4)

/-- `LD C,E` (R101). -/
def execLdCE (s : State) : Result := .next ((ldRegReg .c .e s).setClock 4)

/-- `LD C,H` (R101). -/
def execLdCH (s : State) : Result := .next ((ldRegReg .c .h s).setClock 4)

/-- `LD C,L` (R101). -/
def execLdCL (s : State) : Result := .next ((ldRegReg .c .l s).setClock 4)

/-- `LD C,(HL)` (R102). -/
def execLdCIndHl (s : State) : Result := .next ((ldRegInd .c s).setClock 8)

/-- `LD C,A` (R101). -/
def execLdCA (s : State) : Result := .next ((ldRegReg .c .a s).setClock 4)

/-- `LD D,B` (R101). -/
def execLdDB (s : State) : Result := .next ((ldRegReg .d .b s).setClock 4)

/-- `LD D,C` (R101). -/
def execLdDC (s : State) : Result := .next ((ldRegReg .d .c s).setClock 4)

/-- `LD D,D` (R101). -/
def execLdDD (s : State) : Result := .next ((ldRegReg .d .d s).setClock 4)

/-- `LD D,E` (R101). -/
def execLdDE (s : State) : Result := .next ((ldRegReg .d .e s).setClock 4)

/-- `LD D,H` (R101). -/
def execLdDH (s : State) : Result := .next ((ldRegReg .d .h s).setClock 4)

/-- `LD D,L` (R101). -/
def execLdDL (s : State) : Result := .next ((ldRegReg .d .l s).setClock 4)

/-- `LD D,(HL)` (R102). -/
def execLdDIndHl (s : State) : Result := .next ((ldRegInd .d s).setClock 8)

/-- `LD D,A` (R101). -/
def execLdDA (s : State) : Result := .next ((ldRegReg .d .a s).setClock 4)

/-- `LD E,B` (R101). -/
def execLdEB (s : State) : Result := .next ((ldRegReg .e .b s).setClock 4)

/-- `LD E,C` (R101). -/
def execLdEC (s : State) : Result := .next ((ldRegReg .e .c s).setClock 4)

/-- `LD E,D` (R101). -/
def execLdED (s : State) : Result := .next ((ldRegReg .e .d s).setClock 4)

/-- `LD E,E` (R101). -/
def execLdEE (s : State) : Result := .next ((ldRegReg .e .e s).setClock 4)

/-- `LD E,H` (R101). -/
def execLdEH (s : State) : Result := .next ((ldRegReg .e .h s).setClock 4)

/-- `LD E,L` (R101). -/
def execLdEL (s : State) : Result := .next ((ldRegReg .e .l s).setClock 4)

/-- `LD E,(HL)` (R102). -/
def execLdEIndHl (s : State) : Result := .next ((ldRegInd .e s).setClock 8)

/-- `LD E,A` (R101). -/
def execLdEA (s : State) : Result := .next ((ldRegReg .e .a s).setClock 4)

/-- `LD H,B` (R101). -/
def execLdHB (s : State) : Result := .next ((ldRegReg .h .b s).setClock 4)

/-- `LD H,C` (R101). -/
def execLdHC (s : State) : Result := .next ((ldRegReg .h .c s).setClock 4)

/-- `LD H,D` (R101). -/
def execLdHD (s : State) : Result := .next ((ldRegReg .h .d s).setClock 4)

/-- `LD H,E` (R101). -/
def execLdHE (s : State) : Result := .next ((ldRegReg .h .e s).setClock 4)

/-- `LD H,H` (R101). -/
def execLdHH (s : State) : Result := .next ((ldRegReg .h .h s).setClock 4)

/-- `LD H,L` (R101). -/
def execLdHL (s : State) : Result := .next ((ldRegReg .h .l s).setClock 4)

/-- `LD H,(HL)` (R102). -/
def execLdHIndHl (s : State) : Result := .next ((ldRegInd .h s).setClock 8)

/-- `LD H,A` (R101). -/
def execLdHA (s : State) : Result := .next ((ldRegReg .h .a s).setClock 4)

/-- `LD L,B` (R101). -/
def execLdLB (s : State) : Result := .next ((ldRegReg .l .b s).setClock 4)

/-- `LD L,C` (R101). -/
def execLdLC (s : State) : Result := .next ((ldRegReg .l .c s).setClock 4)

/-- `LD L,D` (R101). -/
def execLdLD (s : State) : Result := .next ((ldRegReg .l .d s).setClock 4)

/-- `LD L,E` (R101). -/
def execLdLE (s : State) : Result := .next ((ldRegReg .l .e s).setClock 4)

/-- `LD L,H` (R101). -/
def execLdLH (s : State) : Result := .next ((ldRegReg .l .h s).setClock 4)

/-- `LD L,L` (R101). -/
def execLdLL (s : State) : Result := .next ((ldRegReg .l .l s).setClock 4)

/-- `LD L,(HL)` (R102). -/
def execLdLIndHl (s : State) : Result := .next ((ldRegInd .l s).setClock 8)

/-- `LD L,A` (R101). -/
def execLdLA (s : State) : Result := .next ((ldRegReg .l .a s).setClock 4)

/-- `LD (HL),B` (R103). -/
def execLdIndHlB (s : State) : Result := .next ((ldIndReg .b s).setClock 8)

/-- `LD (HL),C` (R103). -/
def execLdIndHlC (s : State) : Result := .next ((ldIndReg .c s).setClock 8)

/-- `LD (HL),D` (R103). -/
def execLdIndHlD (s : State) : Result := .next ((ldIndReg .d s).setClock 8)

/-- `LD (HL),E` (R103). -/
def execLdIndHlE (s : State) : Result := .next ((ldIndReg .e s).setClock 8)

/-- `LD (HL),H` (R103). -/
def execLdIndHlH (s : State) : Result := .next ((ldIndReg .h s).setClock 8)

/-- `LD (HL),L` (R103). -/
def execLdIndHlL (s : State) : Result := .next ((ldIndReg .l s).setClock 8)

/-- `LD (HL),A` (R103). -/
def execLdIndHlA (s : State) : Result := .next ((ldIndReg .a s).setClock 8)

/-- `LD A,B` (R101). -/
def execLdAB (s : State) : Result := .next ((ldRegReg .a .b s).setClock 4)

/-- `LD A,C` (R101). -/
def execLdAC (s : State) : Result := .next ((ldRegReg .a .c s).setClock 4)

/-- `LD A,D` (R101). -/
def execLdAD (s : State) : Result := .next ((ldRegReg .a .d s).setClock 4)

/-- `LD A,E` (R101). -/
def execLdAE (s : State) : Result := .next ((ldRegReg .a .e s).setClock 4)

/-- `LD A,H` (R101). -/
def execLdAH (s : State) : Result := .next ((ldRegReg .a .h s).setClock 4)

/-- `LD A,L` (R101). -/
def execLdAL (s : State) : Result := .next ((ldRegReg .a .l s).setClock 4)

/-- `LD A,(HL)` (R102). -/
def execLdAIndHl (s : State) : Result := .next ((ldRegInd .a s).setClock 8)

/-- `LD A,A` (R101). -/
def execLdAA (s : State) : Result := .next ((ldRegReg .a .a s).setClock 4)

end Sys2Proof.Machine
end

