-- ==== Sys2Proof/Machine/RelJump.lean ====
section
/-! DEFINITION. The relative jumps (46_jr.md R170 to R175). PC already points past the offset byte, so the offset is added to the address of the next instruction (R170). -/

namespace Sys2Proof.Machine

/-- `pc <- (pc + off) & 0xFFFF` (R170). -/
def jumpRel (off : Int) (s : State) : State := s.setPc (s.pc + BitVec.ofInt 16 off)

/-- A conditional jump with its clock: (3, 12) if taken, (2, 8) if not (R172 to R175). -/
def jumpRelIf (cc : Cond) (off : Int) (s : State) : State :=
  if s.cond cc then (jumpRel off s).setClock 12 else s.setClock 8

/-- `JR r8` (R171). -/
def execJr (off : Int) (s : State) : Result := .next ((jumpRel off s).setClock 12)

/-- `JR NZ,r8` (R172). -/
def execJrNz (off : Int) (s : State) : Result := .next (jumpRelIf .nz off s)

/-- `JR Z,r8` (R173). -/
def execJrZ (off : Int) (s : State) : Result := .next (jumpRelIf .z off s)

/-- `JR NC,r8` (R174). -/
def execJrNc (off : Int) (s : State) : Result := .next (jumpRelIf .nc off s)

/-- `JR C,r8` (R175). -/
def execJrC (off : Int) (s : State) : Result := .next (jumpRelIf .c off s)

end Sys2Proof.Machine
end

