-- ==== Sys2Proof/Machine/RotateA.lean ====
section
/-! DEFINITION. The four rotates of A by one bit (45_rotate_a.md R165 to R168). All clear Z, N and H; Carry takes the bit shifted out. -/

namespace Sys2Proof.Machine

/-- A and the flags of a rotate: Z, N, H cleared whatever the result, Carry the bit shifted out. -/
def rotated (result : Byte) (out : Bool) (s : State) : State :=
  (s.setReg8 .a result).setFlags false false false out

/-- RLCA (R165): bit 7 re-enters at bit 0. -/
def rotLeftCircular (s : State) : State :=
  rotated (shiftInLeft s.a (s.a.getLsbD 7)) (s.a.getLsbD 7) s

/-- RRCA (R166): bit 0 re-enters at bit 7. -/
def rotRightCircular (s : State) : State :=
  rotated (shiftInRight s.a (s.a.getLsbD 0)) (s.a.getLsbD 0) s

/-- RLA (R167): the previous Carry enters at bit 0. -/
def rotLeftCarry (s : State) : State :=
  rotated (shiftInLeft s.a (s.flag .carry)) (s.a.getLsbD 7) s

/-- RRA (R168): the previous Carry enters at bit 7. -/
def rotRightCarry (s : State) : State :=
  rotated (shiftInRight s.a (s.flag .carry)) (s.a.getLsbD 0) s

/-- `RLCA` (R165). -/
def execRlca (s : State) : Result := .next ((rotLeftCircular s).setClock 4)

/-- `RRCA` (R166). -/
def execRrca (s : State) : Result := .next ((rotRightCircular s).setClock 4)

/-- `RLA` (R167). -/
def execRla (s : State) : Result := .next ((rotLeftCarry s).setClock 4)

/-- `RRA` (R168). -/
def execRra (s : State) : Result := .next ((rotRightCarry s).setClock 4)

end Sys2Proof.Machine
end

