-- ==== Sys2Proof/Machine/Dispatch.lean ====
section
/-! DEFINITION. The dispatch of an instruction to its handler: one arm per row of spec/opcode_table.json, in the table's order.
A meaning runs on the state in which PC already points past the whole instruction: the sequencer fetches the opcode byte and the operand bytes first (Machine/Fetch.lean, log 11). -/

namespace Sys2Proof.Machine

/-- The handler of every instruction (40_sequencer.md R83, R87): every arm completes (00_scope.md R2). -/
def exec (i : Instr) (s : State) : Host.Outcome State Fault Refusal :=
  match i with
  | .ldBcImm16 d16 => Sys2Proof.Machine.execLdBcImm16 d16 s
  | .ldIndBcA => Sys2Proof.Machine.execLdIndBcA s
  | .incBc => Sys2Proof.Machine.execIncBc s
  | .incB => Sys2Proof.Machine.execIncB s
  | .decB => Sys2Proof.Machine.execDecB s
  | .ldBImm d8 => Sys2Proof.Machine.execLdBImm d8 s
  | .rlca => Sys2Proof.Machine.execRlca s
  | .addHlBc => Sys2Proof.Machine.execAddHlBc s
  | .ldAIndBc => Sys2Proof.Machine.execLdAIndBc s
  | .decBc => Sys2Proof.Machine.execDecBc s
  | .incC => Sys2Proof.Machine.execIncC s
  | .decC => Sys2Proof.Machine.execDecC s
  | .ldCImm d8 => Sys2Proof.Machine.execLdCImm d8 s
  | .rrca => Sys2Proof.Machine.execRrca s
  | .stop => Sys2Proof.Machine.execStop s
  | .ldDeImm16 d16 => Sys2Proof.Machine.execLdDeImm16 d16 s
  | .ldIndDeA => Sys2Proof.Machine.execLdIndDeA s
  | .incDe => Sys2Proof.Machine.execIncDe s
  | .incD => Sys2Proof.Machine.execIncD s
  | .decD => Sys2Proof.Machine.execDecD s
  | .ldDImm d8 => Sys2Proof.Machine.execLdDImm d8 s
  | .rla => Sys2Proof.Machine.execRla s
  | .jr off => Sys2Proof.Machine.execJr off s
  | .addHlDe => Sys2Proof.Machine.execAddHlDe s
  | .ldAIndDe => Sys2Proof.Machine.execLdAIndDe s
  | .decDe => Sys2Proof.Machine.execDecDe s
  | .incE => Sys2Proof.Machine.execIncE s
  | .decE => Sys2Proof.Machine.execDecE s
  | .ldEImm d8 => Sys2Proof.Machine.execLdEImm d8 s
  | .rra => Sys2Proof.Machine.execRra s
  | .jrNz off => Sys2Proof.Machine.execJrNz off s
  | .ldHlImm16 d16 => Sys2Proof.Machine.execLdHlImm16 d16 s
  | .ldIndHlIncA => Sys2Proof.Machine.execLdIndHlIncA s
  | .incHl => Sys2Proof.Machine.execIncHl s
  | .incH => Sys2Proof.Machine.execIncH s
  | .decH => Sys2Proof.Machine.execDecH s
  | .ldHImm d8 => Sys2Proof.Machine.execLdHImm d8 s
  | .daa => Sys2Proof.Machine.execDaa s
  | .jrZ off => Sys2Proof.Machine.execJrZ off s
  | .addHlHl => Sys2Proof.Machine.execAddHlHl s
  | .ldAIndHlInc => Sys2Proof.Machine.execLdAIndHlInc s
  | .decHl => Sys2Proof.Machine.execDecHl s
  | .incL => Sys2Proof.Machine.execIncL s
  | .decL => Sys2Proof.Machine.execDecL s
  | .ldLImm d8 => Sys2Proof.Machine.execLdLImm d8 s
  | .cpl => Sys2Proof.Machine.execCpl s
  | .jrNc off => Sys2Proof.Machine.execJrNc off s
  | .ldSpImm16 d16 => Sys2Proof.Machine.execLdSpImm16 d16 s
  | .ldIndHlDecA => Sys2Proof.Machine.execLdIndHlDecA s
  | .incSp => Sys2Proof.Machine.execIncSp s
  | .incIndHl => Sys2Proof.Machine.execIncIndHl s
  | .decIndHl => Sys2Proof.Machine.execDecIndHl s
  | .ldIndHlImm d8 => Sys2Proof.Machine.execLdIndHlImm d8 s
  | .scf => Sys2Proof.Machine.execScf s
  | .jrC off => Sys2Proof.Machine.execJrC off s
  | .addHlSp => Sys2Proof.Machine.execAddHlSp s
  | .ldAIndHlDec => Sys2Proof.Machine.execLdAIndHlDec s
  | .decSp => Sys2Proof.Machine.execDecSp s
  | .incA => Sys2Proof.Machine.execIncA s
  | .decA => Sys2Proof.Machine.execDecA s
  | .ldAImm d8 => Sys2Proof.Machine.execLdAImm d8 s
  | .ccf => Sys2Proof.Machine.execCcf s
  | .ldBB => Sys2Proof.Machine.execLdBB s
  | .ldBC => Sys2Proof.Machine.execLdBC s
  | .ldBD => Sys2Proof.Machine.execLdBD s
  | .ldBE => Sys2Proof.Machine.execLdBE s
  | .ldBH => Sys2Proof.Machine.execLdBH s
  | .ldBL => Sys2Proof.Machine.execLdBL s
  | .ldBIndHl => Sys2Proof.Machine.execLdBIndHl s
  | .ldBA => Sys2Proof.Machine.execLdBA s
  | .ldCB => Sys2Proof.Machine.execLdCB s
  | .ldCC => Sys2Proof.Machine.execLdCC s
  | .ldCD => Sys2Proof.Machine.execLdCD s
  | .ldCE => Sys2Proof.Machine.execLdCE s
  | .ldCH => Sys2Proof.Machine.execLdCH s
  | .ldCL => Sys2Proof.Machine.execLdCL s
  | .ldCIndHl => Sys2Proof.Machine.execLdCIndHl s
  | .ldCA => Sys2Proof.Machine.execLdCA s
  | .ldDB => Sys2Proof.Machine.execLdDB s
  | .ldDC => Sys2Proof.Machine.execLdDC s
  | .ldDD => Sys2Proof.Machine.execLdDD s
  | .ldDE => Sys2Proof.Machine.execLdDE s
  | .ldDH => Sys2Proof.Machine.execLdDH s
  | .ldDL => Sys2Proof.Machine.execLdDL s
  | .ldDIndHl => Sys2Proof.Machine.execLdDIndHl s
  | .ldDA => Sys2Proof.Machine.execLdDA s
  | .ldEB => Sys2Proof.Machine.execLdEB s
  | .ldEC => Sys2Proof.Machine.execLdEC s
  | .ldED => Sys2Proof.Machine.execLdED s
  | .ldEE => Sys2Proof.Machine.execLdEE s
  | .ldEH => Sys2Proof.Machine.execLdEH s
  | .ldEL => Sys2Proof.Machine.execLdEL s
  | .ldEIndHl => Sys2Proof.Machine.execLdEIndHl s
  | .ldEA => Sys2Proof.Machine.execLdEA s
  | .ldHB => Sys2Proof.Machine.execLdHB s
  | .ldHC => Sys2Proof.Machine.execLdHC s
  | .ldHD => Sys2Proof.Machine.execLdHD s
  | .ldHE => Sys2Proof.Machine.execLdHE s
  | .ldHH => Sys2Proof.Machine.execLdHH s
  | .ldHL => Sys2Proof.Machine.execLdHL s
  | .ldHIndHl => Sys2Proof.Machine.execLdHIndHl s
  | .ldHA => Sys2Proof.Machine.execLdHA s
  | .ldLB => Sys2Proof.Machine.execLdLB s
  | .ldLC => Sys2Proof.Machine.execLdLC s
  | .ldLD => Sys2Proof.Machine.execLdLD s
  | .ldLE => Sys2Proof.Machine.execLdLE s
  | .ldLH => Sys2Proof.Machine.execLdLH s
  | .ldLL => Sys2Proof.Machine.execLdLL s
  | .ldLIndHl => Sys2Proof.Machine.execLdLIndHl s
  | .ldLA => Sys2Proof.Machine.execLdLA s
  | .ldIndHlB => Sys2Proof.Machine.execLdIndHlB s
  | .ldIndHlC => Sys2Proof.Machine.execLdIndHlC s
  | .ldIndHlD => Sys2Proof.Machine.execLdIndHlD s
  | .ldIndHlE => Sys2Proof.Machine.execLdIndHlE s
  | .ldIndHlH => Sys2Proof.Machine.execLdIndHlH s
  | .ldIndHlL => Sys2Proof.Machine.execLdIndHlL s
  | .halt => Sys2Proof.Machine.execHalt s
  | .ldIndHlA => Sys2Proof.Machine.execLdIndHlA s
  | .ldAB => Sys2Proof.Machine.execLdAB s
  | .ldAC => Sys2Proof.Machine.execLdAC s
  | .ldAD => Sys2Proof.Machine.execLdAD s
  | .ldAE => Sys2Proof.Machine.execLdAE s
  | .ldAH => Sys2Proof.Machine.execLdAH s
  | .ldAL => Sys2Proof.Machine.execLdAL s
  | .ldAIndHl => Sys2Proof.Machine.execLdAIndHl s
  | .ldAA => Sys2Proof.Machine.execLdAA s
  | .addAB => Sys2Proof.Machine.execAddAB s
  | .addAC => Sys2Proof.Machine.execAddAC s
  | .addAD => Sys2Proof.Machine.execAddAD s
  | .addAE => Sys2Proof.Machine.execAddAE s
  | .addAH => Sys2Proof.Machine.execAddAH s
  | .addAL => Sys2Proof.Machine.execAddAL s
  | .addAIndHl => Sys2Proof.Machine.execAddAIndHl s
  | .addAA => Sys2Proof.Machine.execAddAA s
  | .adcAB => Sys2Proof.Machine.execAdcAB s
  | .adcAC => Sys2Proof.Machine.execAdcAC s
  | .adcAD => Sys2Proof.Machine.execAdcAD s
  | .adcAE => Sys2Proof.Machine.execAdcAE s
  | .adcAH => Sys2Proof.Machine.execAdcAH s
  | .adcAL => Sys2Proof.Machine.execAdcAL s
  | .adcAIndHl => Sys2Proof.Machine.execAdcAIndHl s
  | .adcAA => Sys2Proof.Machine.execAdcAA s
  | .subAB => Sys2Proof.Machine.execSubAB s
  | .subAC => Sys2Proof.Machine.execSubAC s
  | .subAD => Sys2Proof.Machine.execSubAD s
  | .subAE => Sys2Proof.Machine.execSubAE s
  | .subAH => Sys2Proof.Machine.execSubAH s
  | .subAL => Sys2Proof.Machine.execSubAL s
  | .subAIndHl => Sys2Proof.Machine.execSubAIndHl s
  | .subAA => Sys2Proof.Machine.execSubAA s
  | .sbcAB => Sys2Proof.Machine.execSbcAB s
  | .sbcAC => Sys2Proof.Machine.execSbcAC s
  | .sbcAD => Sys2Proof.Machine.execSbcAD s
  | .sbcAE => Sys2Proof.Machine.execSbcAE s
  | .sbcAH => Sys2Proof.Machine.execSbcAH s
  | .sbcAL => Sys2Proof.Machine.execSbcAL s
  | .sbcAIndHl => Sys2Proof.Machine.execSbcAIndHl s
  | .sbcAA => Sys2Proof.Machine.execSbcAA s
  | .andAB => Sys2Proof.Machine.execAndAB s
  | .andAC => Sys2Proof.Machine.execAndAC s
  | .andAD => Sys2Proof.Machine.execAndAD s
  | .andAE => Sys2Proof.Machine.execAndAE s
  | .andAH => Sys2Proof.Machine.execAndAH s
  | .andAL => Sys2Proof.Machine.execAndAL s
  | .andAIndHl => Sys2Proof.Machine.execAndAIndHl s
  | .andAA => Sys2Proof.Machine.execAndAA s
  | .xorAB => Sys2Proof.Machine.execXorAB s
  | .xorAC => Sys2Proof.Machine.execXorAC s
  | .xorAD => Sys2Proof.Machine.execXorAD s
  | .xorAE => Sys2Proof.Machine.execXorAE s
  | .xorAH => Sys2Proof.Machine.execXorAH s
  | .xorAL => Sys2Proof.Machine.execXorAL s
  | .xorAIndHl => Sys2Proof.Machine.execXorAIndHl s
  | .xorAA => Sys2Proof.Machine.execXorAA s
  | .orAB => Sys2Proof.Machine.execOrAB s
  | .orAC => Sys2Proof.Machine.execOrAC s
  | .orAD => Sys2Proof.Machine.execOrAD s
  | .orAE => Sys2Proof.Machine.execOrAE s
  | .orAH => Sys2Proof.Machine.execOrAH s
  | .orAL => Sys2Proof.Machine.execOrAL s
  | .orAIndHl => Sys2Proof.Machine.execOrAIndHl s
  | .orAA => Sys2Proof.Machine.execOrAA s
  | .cpAB => Sys2Proof.Machine.execCpAB s
  | .cpAC => Sys2Proof.Machine.execCpAC s
  | .cpAD => Sys2Proof.Machine.execCpAD s
  | .cpAE => Sys2Proof.Machine.execCpAE s
  | .cpAH => Sys2Proof.Machine.execCpAH s
  | .cpAL => Sys2Proof.Machine.execCpAL s
  | .cpAIndHl => Sys2Proof.Machine.execCpAIndHl s
  | .cpAA => Sys2Proof.Machine.execCpAA s
  | .addAImm d8 => Sys2Proof.Machine.execAddAImm d8 s
  | .adcAImm d8 => Sys2Proof.Machine.execAdcAImm d8 s
  | .subAImm d8 => Sys2Proof.Machine.execSubAImm d8 s
  | .sbcAImm d8 => Sys2Proof.Machine.execSbcAImm d8 s
  | .andAImm d8 => Sys2Proof.Machine.execAndAImm d8 s
  | .xorAImm d8 => Sys2Proof.Machine.execXorAImm d8 s
  | .orAImm d8 => Sys2Proof.Machine.execOrAImm d8 s
  | .cpAImm d8 => Sys2Proof.Machine.execCpAImm d8 s

end Sys2Proof.Machine
end

