-- ==== Sys2Proof/WellFormed.lean ====
section
/-! DEFINITION. Which instructions can be encoded. Registers, pairs, conditions and immediates carry their widths in their types; the one check left is the range of a relative offset. -/

namespace Sys2Proof

/-- The range of a relative offset: an integer in [-128, 127] (40_sequencer.md R86; 30_encoding.md R73). -/
def offsetInRange (off : Int) : Bool := decide (-128 ≤ off) && decide (off ≤ 127)

/-- The checks of one form. -/
def Shape.wellFormed : Shape → Bool
  | .jr off | .jrIf _ off => offsetInRange off
  | .ldRegReg _ _ | .ldRegInd _ | .ldIndReg _ | .ldRegImm _ _ | .ldIndImm _ | .storeA _ | .loadA _
  | .ldPairImm _ _ | .aluReg _ _ | .aluInd _ | .aluImm _ _ | .addHl _ | .incReg _ | .incInd
  | .decReg _ | .decInd | .incPair _ | .decPair _ | .rlca | .rrca | .rla | .rra
  | .daa | .cpl | .scf | .ccf | .halt | .stop => true

/-- An instruction the encoding of 30_encoding.md has bits for. -/
def Instr.wellFormed (i : Instr) : Bool := i.shape.wellFormed

/-- `Instr.wellFormed` as a proposition. -/
abbrev WellFormed (i : Instr) : Prop := i.wellFormed = true

end Sys2Proof
end

