-- ==== Sys2Proof/Decode.lean ====
section
/-! DEFINITION. The decoder, total on any bytes, from the 16 by 16 opcode map of 30_encoding.md R68, and after it the encoder, from the field patterns and operand codes of R62 to R68. -/

namespace Sys2Proof

/-- Why a list of bytes is no instruction. -/
inductive DecodeError where
  /-- The opcode byte has no handler: one of the 58 bytes of R69. -/
  | unmapped (opcode : Byte)
  /-- The bytes end before the instruction does.
  A fetch from memory cannot meet this: every address holds a byte (20_memory.md R42). -/
  | truncated
  deriving DecidableEq, Repr

/-- A slot of the opcode table that holds a handler: the instruction, or how its operand bytes make it (R61, R67). -/
inductive Slot where
  /-- Format OP. -/
  | op (i : Instr)
  /-- Format OP_D8. -/
  | d8 (k : Byte → Instr)
  /-- Format OP_R8. -/
  | r8 (k : Int → Instr)
  /-- Format OP_D16. -/
  | d16 (k : Word → Instr)

/-- `getSignedOffsetByte` (40_sequencer.md R86): a byte as two's complement. -/
def signed8 (b : Byte) : Int :=
  if b.toNat ≤ 0x7F then b.toNat else (b.toNat : Int) - 0x100

/-- The 16-bit immediate of two bytes, low byte first (20_memory.md R43, R67). -/
def immWord (lo hi : Byte) : Word := hi ++ lo

/-- Row 0x of the map of R68. -/
def opcodeRow0 : List (Option Slot) :=
  [none, some (.d16 Instr.ldBcImm16), some (.op .ldIndBcA), some (.op .incBc),
   some (.op .incB), some (.op .decB), some (.d8 Instr.ldBImm), some (.op .rlca),
   none, some (.op .addHlBc), some (.op .ldAIndBc), some (.op .decBc),
   some (.op .incC), some (.op .decC), some (.d8 Instr.ldCImm), some (.op .rrca)]

/-- Row 1x of the map of R68. -/
def opcodeRow1 : List (Option Slot) :=
  [some (.op .stop), some (.d16 Instr.ldDeImm16), some (.op .ldIndDeA), some (.op .incDe),
   some (.op .incD), some (.op .decD), some (.d8 Instr.ldDImm), some (.op .rla),
   some (.r8 Instr.jr), some (.op .addHlDe), some (.op .ldAIndDe), some (.op .decDe),
   some (.op .incE), some (.op .decE), some (.d8 Instr.ldEImm), some (.op .rra)]

/-- Row 2x of the map of R68. -/
def opcodeRow2 : List (Option Slot) :=
  [some (.r8 Instr.jrNz), some (.d16 Instr.ldHlImm16), some (.op .ldIndHlIncA), some (.op .incHl),
   some (.op .incH), some (.op .decH), some (.d8 Instr.ldHImm), some (.op .daa),
   some (.r8 Instr.jrZ), some (.op .addHlHl), some (.op .ldAIndHlInc), some (.op .decHl),
   some (.op .incL), some (.op .decL), some (.d8 Instr.ldLImm), some (.op .cpl)]

/-- Row 3x of the map of R68. -/
def opcodeRow3 : List (Option Slot) :=
  [some (.r8 Instr.jrNc), some (.d16 Instr.ldSpImm16), some (.op .ldIndHlDecA), some (.op .incSp),
   some (.op .incIndHl), some (.op .decIndHl), some (.d8 Instr.ldIndHlImm), some (.op .scf),
   some (.r8 Instr.jrC), some (.op .addHlSp), some (.op .ldAIndHlDec), some (.op .decSp),
   some (.op .incA), some (.op .decA), some (.d8 Instr.ldAImm), some (.op .ccf)]

/-- Row 4x of the map of R68. -/
def opcodeRow4 : List (Option Slot) :=
  [some (.op .ldBB), some (.op .ldBC), some (.op .ldBD), some (.op .ldBE),
   some (.op .ldBH), some (.op .ldBL), some (.op .ldBIndHl), some (.op .ldBA),
   some (.op .ldCB), some (.op .ldCC), some (.op .ldCD), some (.op .ldCE),
   some (.op .ldCH), some (.op .ldCL), some (.op .ldCIndHl), some (.op .ldCA)]

/-- Row 5x of the map of R68. -/
def opcodeRow5 : List (Option Slot) :=
  [some (.op .ldDB), some (.op .ldDC), some (.op .ldDD), some (.op .ldDE),
   some (.op .ldDH), some (.op .ldDL), some (.op .ldDIndHl), some (.op .ldDA),
   some (.op .ldEB), some (.op .ldEC), some (.op .ldED), some (.op .ldEE),
   some (.op .ldEH), some (.op .ldEL), some (.op .ldEIndHl), some (.op .ldEA)]

/-- Row 6x of the map of R68. -/
def opcodeRow6 : List (Option Slot) :=
  [some (.op .ldHB), some (.op .ldHC), some (.op .ldHD), some (.op .ldHE),
   some (.op .ldHH), some (.op .ldHL), some (.op .ldHIndHl), some (.op .ldHA),
   some (.op .ldLB), some (.op .ldLC), some (.op .ldLD), some (.op .ldLE),
   some (.op .ldLH), some (.op .ldLL), some (.op .ldLIndHl), some (.op .ldLA)]

/-- Row 7x of the map of R68. -/
def opcodeRow7 : List (Option Slot) :=
  [some (.op .ldIndHlB), some (.op .ldIndHlC), some (.op .ldIndHlD), some (.op .ldIndHlE),
   some (.op .ldIndHlH), some (.op .ldIndHlL), some (.op .halt), some (.op .ldIndHlA),
   some (.op .ldAB), some (.op .ldAC), some (.op .ldAD), some (.op .ldAE),
   some (.op .ldAH), some (.op .ldAL), some (.op .ldAIndHl), some (.op .ldAA)]

/-- Row 8x of the map of R68. -/
def opcodeRow8 : List (Option Slot) :=
  [some (.op .addAB), some (.op .addAC), some (.op .addAD), some (.op .addAE),
   some (.op .addAH), some (.op .addAL), some (.op .addAIndHl), some (.op .addAA),
   some (.op .adcAB), some (.op .adcAC), some (.op .adcAD), some (.op .adcAE),
   some (.op .adcAH), some (.op .adcAL), some (.op .adcAIndHl), some (.op .adcAA)]

/-- Row 9x of the map of R68. -/
def opcodeRow9 : List (Option Slot) :=
  [some (.op .subAB), some (.op .subAC), some (.op .subAD), some (.op .subAE),
   some (.op .subAH), some (.op .subAL), some (.op .subAIndHl), some (.op .subAA),
   some (.op .sbcAB), some (.op .sbcAC), some (.op .sbcAD), some (.op .sbcAE),
   some (.op .sbcAH), some (.op .sbcAL), some (.op .sbcAIndHl), some (.op .sbcAA)]

/-- Row Ax of the map of R68. -/
def opcodeRowA : List (Option Slot) :=
  [some (.op .andAB), some (.op .andAC), some (.op .andAD), some (.op .andAE),
   some (.op .andAH), some (.op .andAL), some (.op .andAIndHl), some (.op .andAA),
   some (.op .xorAB), some (.op .xorAC), some (.op .xorAD), some (.op .xorAE),
   some (.op .xorAH), some (.op .xorAL), some (.op .xorAIndHl), some (.op .xorAA)]

/-- Row Bx of the map of R68. -/
def opcodeRowB : List (Option Slot) :=
  [some (.op .orAB), some (.op .orAC), some (.op .orAD), some (.op .orAE),
   some (.op .orAH), some (.op .orAL), some (.op .orAIndHl), some (.op .orAA),
   some (.op .cpAB), some (.op .cpAC), some (.op .cpAD), some (.op .cpAE),
   some (.op .cpAH), some (.op .cpAL), some (.op .cpAIndHl), some (.op .cpAA)]

/-- Row Cx of the map of R68. -/
def opcodeRowC : List (Option Slot) :=
  [none, none, none, none,
   none, none, some (.d8 Instr.addAImm), none,
   none, none, none, none,
   none, none, some (.d8 Instr.adcAImm), none]

/-- Row Dx of the map of R68. -/
def opcodeRowD : List (Option Slot) :=
  [none, none, none, none,
   none, none, some (.d8 Instr.subAImm), none,
   none, none, none, none,
   none, none, some (.d8 Instr.sbcAImm), none]

/-- Row Ex of the map of R68. -/
def opcodeRowE : List (Option Slot) :=
  [none, none, none, none,
   none, none, some (.d8 Instr.andAImm), none,
   none, none, none, none,
   none, none, some (.d8 Instr.xorAImm), none]

/-- Row Fx of the map of R68. -/
def opcodeRowF : List (Option Slot) :=
  [none, none, none, none,
   none, none, some (.d8 Instr.orAImm), none,
   none, none, none, none,
   none, none, some (.d8 Instr.cpAImm), none]

/-- The row of the map for a high nibble. -/
def opcodeRow (hi : Nat) : List (Option Slot) :=
  match hi with
  | 0x0 => opcodeRow0
  | 0x1 => opcodeRow1
  | 0x2 => opcodeRow2
  | 0x3 => opcodeRow3
  | 0x4 => opcodeRow4
  | 0x5 => opcodeRow5
  | 0x6 => opcodeRow6
  | 0x7 => opcodeRow7
  | 0x8 => opcodeRow8
  | 0x9 => opcodeRow9
  | 0xA => opcodeRowA
  | 0xB => opcodeRowB
  | 0xC => opcodeRowC
  | 0xD => opcodeRowD
  | 0xE => opcodeRowE
  | 0xF => opcodeRowF
  | _ => []

/-- The OpcodeTable (10_state.md R25): a fixed map from opcode byte to handler, `none` on the 58 unmapped bytes (R69).
UNVERIFIED (log 3): the numbering is the spec's own decision D4. -/
def opcodeTable (b : Byte) : Option Slot :=
  match (opcodeRow (b.toNat / 16))[b.toNat % 16]? with
  | some slot => slot
  | none => none

/-- An instruction from its slot and the bytes after the opcode byte. -/
def Slot.read : Slot → List Byte → Except DecodeError (Instr × List Byte)
  | .op i, rest => .ok (i, rest)
  | .d8 _, [] => .error .truncated
  | .d8 k, x :: rest => .ok (k x, rest)
  | .r8 _, [] => .error .truncated
  | .r8 k, x :: rest => .ok (k (signed8 x), rest)
  | .d16 _, [] => .error .truncated
  | .d16 _, [_] => .error .truncated
  | .d16 k, lo :: hi :: rest => .ok (k (immWord lo hi), rest)

/-- The decoder: the first instruction of a list of bytes and the bytes after it (R60, R72). -/
def decode : List Byte → Except DecodeError (Instr × List Byte)
  | [] => .error .truncated
  | b :: rest =>
    match opcodeTable b with
    | some slot => slot.read rest
    | none => .error (.unmapped b)

/-- The code of an eight-bit register (R63). -/
def Reg8.code : Reg8 → BitVec 3
  | .b => 0b000#3
  | .c => 0b001#3
  | .d => 0b010#3
  | .e => 0b011#3
  | .h => 0b100#3
  | .l => 0b101#3
  | .a => 0b111#3

/-- The operand code 6 of R63, the memory byte at HL. -/
def indCode : BitVec 3 := 0b110#3

/-- The code of a sixteen-bit operand (R64, first line). -/
def Reg16.code : Reg16 → BitVec 2
  | .bc => 0b00#2
  | .de => 0b01#2
  | .hl => 0b10#2
  | .sp => 0b11#2

/-- The code of an address register (R64, second line). -/
def IndMode.code : IndMode → BitVec 2
  | .bc => 0b00#2
  | .de => 0b01#2
  | .hlInc => 0b10#2
  | .hlDec => 0b11#2

/-- The code of a condition (R65). -/
def Cond.code : Cond → BitVec 2
  | .nz => 0b00#2
  | .z => 0b01#2
  | .nc => 0b10#2
  | .c => 0b11#2

/-- The code of an eight-bit operation (R66). -/
def AluOp.code : AluOp → BitVec 3
  | .add => 0b000#3
  | .adc => 0b001#3
  | .sub => 0b010#3
  | .sbc => 0b011#3
  | .and => 0b100#3
  | .xor => 0b101#3
  | .or => 0b110#3
  | .cp => 0b111#3

/-- The opcode byte of a form: the patterns of R68, bit 7 first. -/
def Shape.opcode : Shape → Byte
  | .ldRegReg dst src => 0b01#2 ++ dst.code ++ src.code
  | .ldRegInd dst => 0b01#2 ++ dst.code ++ indCode
  | .ldIndReg src => 0b01#2 ++ indCode ++ src.code
  | .ldRegImm dst _ => 0b00#2 ++ dst.code ++ 0b110#3
  | .ldIndImm _ => 0b00#2 ++ indCode ++ 0b110#3
  | .storeA m => 0b00#2 ++ m.code ++ 0b0010#4
  | .loadA m => 0b00#2 ++ m.code ++ 0b1010#4
  | .ldPairImm rr _ => 0b00#2 ++ rr.code ++ 0b0001#4
  | .aluReg op src => 0b10#2 ++ op.code ++ src.code
  | .aluInd op => 0b10#2 ++ op.code ++ indCode
  | .aluImm op _ => 0b11#2 ++ op.code ++ 0b110#3
  | .addHl rr => 0b00#2 ++ rr.code ++ 0b1001#4
  | .incReg r => 0b00#2 ++ r.code ++ 0b100#3
  | .incInd => 0b00#2 ++ indCode ++ 0b100#3
  | .decReg r => 0b00#2 ++ r.code ++ 0b101#3
  | .decInd => 0b00#2 ++ indCode ++ 0b101#3
  | .incPair rr => 0b00#2 ++ rr.code ++ 0b0011#4
  | .decPair rr => 0b00#2 ++ rr.code ++ 0b1011#4
  | .rlca => 0b00000111#8
  | .rrca => 0b00001111#8
  | .rla => 0b00010111#8
  | .rra => 0b00011111#8
  | .jr _ => 0b00011000#8
  | .jrIf cc _ => 0b001#3 ++ cc.code ++ 0b000#3
  | .daa => 0b00100111#8
  | .cpl => 0b00101111#8
  | .scf => 0b00110111#8
  | .ccf => 0b00111111#8
  | .halt => 0b01110110#8
  | .stop => 0b00010000#8

/-- The operand bytes of a form, in ascending address order (R61, R67). -/
def Shape.operandBytes : Shape → List Byte
  | .ldRegImm _ d8 | .ldIndImm d8 | .aluImm _ d8 => [d8]
  | .ldPairImm _ d16 => [d16.extractLsb' 0 8, d16.extractLsb' 8 8]
  | .jr off | .jrIf _ off => [BitVec.ofInt 8 off]
  | .ldRegReg _ _ | .ldRegInd _ | .ldIndReg _ | .storeA _ | .loadA _ | .aluReg _ _ | .aluInd _
  | .addHl _ | .incReg _ | .incInd | .decReg _ | .decInd | .incPair _ | .decPair _
  | .rlca | .rrca | .rla | .rra | .daa | .cpl | .scf | .ccf | .halt | .stop => []

/-- The encoder: the bytes of an instruction, opcode first (R61). -/
def encode (i : Instr) : List Byte :=
  i.shape.opcode :: i.shape.operandBytes

/-- The length of an instruction in bytes (R60). -/
def Instr.length (i : Instr) : Nat := 1 + i.shape.operandBytes.length

/-- The bytes of an instruction whose bits are `w`, bit 0 the least significant bit of the first byte, in address order.
Bits from `nbits` up count as 0, up to the longest instruction, three bytes (R60). -/
def tableBytes (nbits w : Nat) : List Byte :=
  [BitVec.ofNat 8 (w % 2 ^ nbits), BitVec.ofNat 8 (w % 2 ^ nbits / 2 ^ 8),
   BitVec.ofNat 8 (w % 2 ^ nbits / 2 ^ 16)]

/-- What the decoder reads from an instruction whose bits are `w`, numbered as the opcode table numbers them. -/
def decodeTableWord (nbits w : Nat) : Option Instr :=
  match decode (tableBytes nbits w) with
  | .ok (i, _) => some i
  | .error _ => none

end Sys2Proof
end

