-- ==== Sys2Proof/Machine/Fetch.lean ====
section
/-! DEFINITION. The fetch half of `step` (40_sequencer.md R80, R82 to R85): the opcode byte, its lookup in the opcode table, and the operand bytes, each read advancing PC. -/

namespace Sys2Proof.Machine

/-- `FetchByte()` (R84), which is also the opcode fetch with its PC advance (R82): the byte at PC, and PC advanced by one modulo 65536. -/
def fetchByte (s : State) : Byte × State := (s.readByte s.pc, s.setPc (s.pc + 1#16))

/-- `FetchWord()` (R85): the low byte at PC, the high byte at PC + 1, and PC advanced by two, all modulo 65536. -/
def fetchWord (s : State) : Word × State :=
  (immWord (s.readByte s.pc) (s.readByte (s.pc + 1#16)), s.setPc (s.pc + 2#16))

/-- The operand bytes of a slot (30_encoding.md R75): the instruction, and the state with PC past them. -/
def fetchOperands (slot : Slot) (s : State) : Instr × State :=
  match slot with
  | .op i => (i, s)
  | .d8 k => (k (fetchByte s).1, (fetchByte s).2)
  | .r8 k => (k (signed8 (fetchByte s).1), (fetchByte s).2)
  | .d16 k => (k (fetchWord s).1, (fetchWord s).2)

/-- The fetch of one instruction: the instruction with the state after its last byte, or on a dispatch miss the opcode byte with the state after the opcode fetch alone (R82, R83).
The operands are fetched before the handler starts; the accesses and their order are those of 20_memory.md R46 (log 11). -/
def fetchInstr (s : State) : Except (Byte × State) (Instr × State) :=
  match opcodeTable (fetchByte s).1 with
  | some slot => .ok (fetchOperands slot (fetchByte s).2)
  | none => .error (fetchByte s)

/-- The three bytes from PC on, as far as the longest instruction reaches (30_encoding.md R60, R61). -/
def bytesAtPc (s : State) : List Byte :=
  [s.readByte s.pc, s.readByte (s.pc + 1#16), s.readByte (s.pc + 2#16)]

/-- Bytes placed in the store at ascending addresses modulo 65536, as a host loads a program (70_reset_and_hazards.md R232). -/
def storeBytes (s : State) (addr : Word) : List Byte → State
  | [] => s
  | v :: rest => storeBytes (s.writeByte addr v) (addr + 1#16) rest

end Sys2Proof.Machine
end

