-- ==== Sys2Proof/Machine/Step.lean ====
section
/-! DEFINITION. `step()`, the core's only step (40_sequencer.md R80), and the placing of an instruction where it fetches. -/

namespace Sys2Proof.Machine

/-- One call of `step()` (R80), its checks in the order of 60_exceptions.md R207: `halted` gates it (R81), then the fetch, then the lookup, then the handler.
`stopped` and `ime` are not read (R88, R91). -/
def step (s : State) : Host.Outcome State Fault Refusal :=
  if s.halted then .next s
  else
    match fetchInstr s with
    | .ok (i, s') => exec i s'
    | .error (opcode, left) => raiseIllegalOpcode opcode s.pc left

/-- The state with an instruction's bytes stored at PC, where `step` fetches next, and the core RUNNING: a halted core fetches nothing (R81).
It stands for the loading of a program by the host (70_reset_and_hazards.md R232, log 8). -/
def State.withFetchWord (s : State) (nbits w : Nat) : State :=
  { storeBytes s s.pc (tableBytes nbits w) with halted := false }

end Sys2Proof.Machine
end

