-- ==== Sys2Proof/Machine/HostIf.lean ====
section
/-! DEFINITION. The host's side of the core (10_state.md R24, R27; 70_reset_and_hazards.md R230, R237): construction, and what the host may read and write between two steps. No step does any of this (log 9). -/

namespace Sys2Proof.Machine

/-- The composite views the host reaches (10_state.md R14, R15). -/
inductive Pair where
  | bc | de | hl | af
  deriving DecidableEq, Repr

/-- A composite read (R14). -/
def State.pair (s : State) (p : Pair) : Word :=
  match p with
  | .bc => s.bc
  | .de => s.de
  | .hl => s.hl
  | .af => s.af

/-- A composite write (R14, R15). -/
def State.setPair (s : State) (p : Pair) (v : Word) : State :=
  match p with
  | .bc => s.setBc v
  | .de => s.setDe v
  | .hl => s.setHl v
  | .af => s.setAf v

/-- One act of the host between two steps (R27, R237).
The written values are naturals: a value wider than the register is masked, not refused (93_implementation_defined.md U11).
The host cannot write ClockState or the opcode table (R27). -/
inductive HostOp where
  /-- Write one of A, B, C, D, E, H, L. -/
  | writeReg8 (r : Reg8) (v : Nat)
  /-- Write F. -/
  | writeF (v : Nat)
  /-- Write PC. -/
  | writePc (v : Nat)
  /-- Write SP. -/
  | writeSp (v : Nat)
  /-- Write a composite. -/
  | writePair (p : Pair) (v : Nat)
  /-- Write `halted`; writing false wakes the core (R21). -/
  | writeHalted (v : Bool)
  /-- Write `stopped` (R22). -/
  | writeStopped (v : Bool)
  /-- Write `ime` (R23). -/
  | writeIme (v : Bool)
  /-- `enableInterrupts()` (R24). -/
  | enableInterrupts
  /-- `disableInterrupts()` (R24). -/
  | disableInterrupts
  /-- Write a byte through the host's own reference to the memory (00_scope.md R1). -/
  | writeMem (addr : Word) (v : Nat)
  deriving DecidableEq, Repr

/-- What an act of the host does (R24, R27): the masks of any other write, and no side effect. -/
def hostAct (op : HostOp) (s : State) : State :=
  match op with
  | .writeReg8 r v => s.setReg8 r (BitVec.ofNat 8 v)
  | .writeF v => s.setF (BitVec.ofNat 8 v)
  | .writePc v => s.setPc (BitVec.ofNat 16 v)
  | .writeSp v => s.setSp (BitVec.ofNat 16 v)
  | .writePair p v => s.setPair p (BitVec.ofNat 16 v)
  | .writeHalted v => { s with halted := v }
  | .writeStopped v => { s with stopped := v }
  | .writeIme v => { s with ime := v }
  | .enableInterrupts => { s with ime := true }
  | .disableInterrupts => { s with ime := false }
  | .writeMem addr v => s.writeByte addr (BitVec.ofNat 8 v)

/-- What the host may read (R27). -/
inductive HostView where
  | reg8 (r : Reg8)
  | f
  | pc
  | sp
  | pair (p : Pair)
  | clockM
  | clockT
  | halted
  | stopped
  | ime
  | mem (addr : Word)
  deriving DecidableEq, Repr

/-- The value of a host's read, a boolean as 0 or 1: a read changes nothing (R27, R237). -/
def hostRead (view : HostView) (s : State) : Nat :=
  match view with
  | .reg8 r => (s.reg8 r).toNat
  | .f => s.f.toNat
  | .pc => s.pc.toNat
  | .sp => s.sp.toNat
  | .pair p => (s.pair p).toNat
  | .clockM => s.clk.m
  | .clockT => s.clk.t
  | .halted => s.halted.toNat
  | .stopped => s.stopped.toNat
  | .ime => s.ime.toNat
  | .mem addr => (s.readByte addr).toNat

/-- A byte store from a list of addresses and bytes, addresses modulo 65536, an earlier entry over a later one: the canonical form of `INIT_MEM`. -/
def memOf : List Host.Cell → List Host.Cell
  | [] => []
  | (k, v) :: rest => Mem.write (memOf rest) (k % Config.memSize) v

/-- Construction, the only reset (70_reset_and_hazards.md R230), with the OPEN parameters `INIT` and `INIT_MEM` as arguments (10_state.md R31; 20_memory.md R42).
F is masked; `halted` and `stopped` are false. -/
def construct (init : Config.Init) (initMem : List Host.Cell) : State :=
  { a := init.a, b := init.b, c := init.c, d := init.d, e := init.e, h := init.h, l := init.l,
    f := init.f &&& 0xF0#8, pc := init.pc, sp := init.sp, clk := { m := init.m, t := init.t },
    halted := false, stopped := false, ime := init.ime, mem := memOf initMem }

end Sys2Proof.Machine
end

