-- ==== Sys2Proof/Safety.lean ====
section
/-! DEFINITION. The terms claims are stated in: the invariants of a state (10_state.md R29), reachability, the end of a run (70_reset_and_hazards.md R236), the flag register as a byte, and the footprint of an instruction as the spec's tables give it (which registers, flags and memory bytes it writes, which flags it reads, what it costs). -/

namespace Sys2Proof

open Sys2Proof.Machine

/-- F as a byte of its four flags, bits 3:0 zero (10_state.md R12). -/
def flagByte (z n h c : Bool) : Byte :=
  BitVec.ofBool z ++ BitVec.ofBool n ++ BitVec.ofBool h ++ BitVec.ofBool c ++ 0b0000#4

/-- What holds in every state a run passes through: bits 3:0 of F are zero (R12, R29), and the store has its canonical form. -/
def Inv (s : State) : Prop :=
  s.f &&& 0x0F#8 = 0x00#8 ∧ Mem.wf s.mem = true

/-- The clock an executed handler leaves (R29). -/
def LegalClock (c : ClockState) : Prop :=
  c = { m := 1, t := 4 } ∨ c = { m := 2, t := 8 } ∨ c = { m := 3, t := 12 }

/-- The states reachable from a constructed CPU by `step` calls and host acts (R29), and whether a handler has executed on the way.
The host may also go on from the state an IllegalOpcode leaves (60_exceptions.md R203). -/
inductive Reachable : State → Bool → Prop where
  | construct (init : Config.Init) (initMem : List Host.Cell) :
      Reachable (Machine.construct init initMem) false
  | halted {s : State} {ran : Bool} : Reachable s ran → s.halted = true → Reachable s ran
  | executed {s t : State} {ran : Bool} : Reachable s ran → s.halted = false → step s = .next t → Reachable t true
  | missed {s left : State} {ran : Bool} {opcode : Byte} {pcFetch : Word} :
      Reachable s ran → step s = .fault (.illegalOpcode opcode pcFetch left) → Reachable left ran
  | host {s : State} {ran : Bool} (op : HostOp) : Reachable s ran → Reachable (hostAct op s) ran

/-- A final state of a run: `halted` (70_reset_and_hazards.md R236).
`stopped` ends nothing. -/
def Final (s : State) : Prop := s.halted = true

/-- The run of `k` steps from `s` ends normally in `t` (R236). -/
def EndsIn (k : Nat) (s t : State) : Prop := core.run k s = .next t ∧ Final t

/-- A run is safe if no step of it raises IllegalOpcode (60_exceptions.md R203). -/
def SafeRun (s : State) : Prop := ∀ k, ∃ t, core.run k s = .next t

/-- The 58 opcode bytes without a handler (30_encoding.md R69): 0x00, 0x08, and 0xC0 to 0xFF except 0xC6, 0xCE, 0xD6, 0xDE, 0xE6, 0xEE, 0xF6, 0xFE. -/
def unmappedOpcode (b : Byte) : Bool :=
  decide (b = 0x00#8) || decide (b = 0x08#8) ||
    (decide (0xC0 ≤ b.toNat) && !([0xC6#8, 0xCE#8, 0xD6#8, 0xDE#8, 0xE6#8, 0xEE#8, 0xF6#8, 0xFE#8].contains b))

/-- The halves of a pair; SP has none (10_state.md R14, R16). -/
def Reg16.halves : Reg16 → List Reg8
  | .bc => [.b, .c]
  | .de => [.d, .e]
  | .hl => [.h, .l]
  | .sp => []

/-- The registers a post-modification writes (41_load_store.md R110 to R113). -/
def IndMode.postRegs : IndMode → List Reg8
  | .bc | .de => []
  | .hlInc | .hlDec => [.h, .l]

/-- The eight-bit registers an instruction writes: its destination, and what its addressing updates. -/
def Shape.regsWritten : Shape → List Reg8
  | .ldRegReg dst _ | .ldRegInd dst | .ldRegImm dst _ => [dst]
  | .ldIndReg _ | .ldIndImm _ => []
  | .storeA m => m.postRegs
  | .loadA m => .a :: m.postRegs
  | .ldPairImm rr _ => rr.halves
  | .aluReg op _ | .aluInd op | .aluImm op _ => if op = .cp then [] else [.a]
  | .addHl _ => [.h, .l]
  | .incReg r | .decReg r => [r]
  | .incInd | .decInd => []
  | .incPair rr | .decPair rr => rr.halves
  | .rlca | .rrca | .rla | .rra | .daa | .cpl => [.a]
  | .jr _ | .jrIf _ _ | .scf | .ccf | .halt | .stop => []

/-- Whether an instruction writes SP: `LD SP,d16`, `INC SP`, `DEC SP` (10_state.md R16). -/
def Shape.writesSp : Shape → Bool
  | .ldPairImm rr _ | .incPair rr | .decPair rr => decide (rr = .sp)
  | .ldRegReg _ _ | .ldRegInd _ | .ldRegImm _ _ | .ldIndReg _ | .ldIndImm _ | .storeA _ | .loadA _
  | .aluReg _ _ | .aluInd _ | .aluImm _ _ | .addHl _ | .incReg _ | .decReg _ | .incInd | .decInd
  | .rlca | .rrca | .rla | .rra | .daa | .cpl | .scf | .ccf | .jr _ | .jrIf _ _ | .halt | .stop => false

/-- The flags an instruction writes: the "written by" column of 10_state.md R18. -/
def Shape.flagsWritten : Shape → List Flag
  | .aluReg _ _ | .aluInd _ | .aluImm _ _ => [.zero, .subtract, .halfCarry, .carry]
  | .addHl _ => [.subtract, .halfCarry, .carry]
  | .incReg _ | .incInd | .decReg _ | .decInd => [.zero, .subtract, .halfCarry]
  | .rlca | .rrca | .rla | .rra => [.zero, .subtract, .halfCarry, .carry]
  | .daa => [.zero, .halfCarry, .carry]
  | .cpl => [.subtract, .halfCarry]
  | .scf | .ccf => [.subtract, .halfCarry, .carry]
  | .ldRegReg _ _ | .ldRegInd _ | .ldRegImm _ _ | .ldIndReg _ | .ldIndImm _ | .storeA _ | .loadA _
  | .ldPairImm _ _ | .incPair _ | .decPair _ | .jr _ | .jrIf _ _ | .halt | .stop => []

/-- The flags an instruction reads: the "read by" column of 10_state.md R18. -/
def Shape.flagsRead : Shape → List Flag
  | .aluReg op _ | .aluInd op | .aluImm op _ => if op = .adc ∨ op = .sbc then [.carry] else []
  | .rla | .rra | .ccf => [.carry]
  | .daa => [.subtract, .halfCarry, .carry]
  | .jrIf .nz _ | .jrIf .z _ => [.zero]
  | .jrIf .nc _ | .jrIf .c _ => [.carry]
  | .addHl _ | .incReg _ | .incInd | .decReg _ | .decInd | .rlca | .rrca | .cpl | .scf
  | .ldRegReg _ _ | .ldRegInd _ | .ldRegImm _ _ | .ldIndReg _ | .ldIndImm _ | .storeA _ | .loadA _
  | .ldPairImm _ _ | .incPair _ | .decPair _ | .jr _ | .halt | .stop => []

/-- The one byte an instruction stores, with its address, both from the state before it (20_memory.md R46, R53); `none` for an instruction that stores nothing. -/
def Shape.store (sh : Shape) (s : State) : Option (Word × Byte) :=
  match sh with
  | .ldIndReg src => some (s.hl, s.reg8 src)
  | .ldIndImm d8 => some (s.hl, d8)
  | .storeA m => some (s.indAddr m, s.a)
  | .incInd => some (s.hl, s.readInd + 1#8)
  | .decInd => some (s.hl, s.readInd - 1#8)
  | .ldRegReg _ _ | .ldRegInd _ | .ldRegImm _ _ | .loadA _ | .ldPairImm _ _ | .aluReg _ _ | .aluInd _
  | .aluImm _ _ | .addHl _ | .incReg _ | .decReg _ | .incPair _ | .decPair _ | .rlca | .rrca | .rla | .rra
  | .daa | .cpl | .scf | .ccf | .jr _ | .jrIf _ _ | .halt | .stop => none

/-- The offset of a relative jump that is taken in a state, `none` where the instruction does not jump (46_jr.md R170 to R175). -/
def Shape.takenOffset (sh : Shape) (s : State) : Option Int :=
  match sh with
  | .jr off => some off
  | .jrIf .nz off => if s.flag .zero then none else some off
  | .jrIf .z off => if s.flag .zero then some off else none
  | .jrIf .nc off => if s.flag .carry then none else some off
  | .jrIf .c off => if s.flag .carry then some off else none
  | .ldRegReg _ _ | .ldRegInd _ | .ldRegImm _ _ | .ldIndReg _ | .ldIndImm _ | .storeA _ | .loadA _
  | .ldPairImm _ _ | .aluReg _ _ | .aluInd _ | .aluImm _ _ | .addHl _ | .incReg _ | .decReg _ | .incInd
  | .decInd | .incPair _ | .decPair _ | .rlca | .rrca | .rla | .rra | .daa | .cpl | .scf | .ccf
  | .halt | .stop => none

/-- The clock an instruction leaves: the complete table of 70_reset_and_hazards.md R235. -/
def Shape.clockAfter (sh : Shape) (s : State) : ClockState :=
  match sh with
  | .ldRegReg _ _ | .aluReg _ _ | .incReg _ | .decReg _ | .rlca | .rrca | .rla | .rra
  | .daa | .cpl | .scf | .ccf | .halt | .stop => { m := 1, t := 4 }
  | .ldRegInd _ | .ldIndReg _ | .ldRegImm _ _ | .storeA _ | .loadA _ | .aluInd _ | .aluImm _ _
  | .addHl _ | .incPair _ | .decPair _ => { m := 2, t := 8 }
  | .ldIndImm _ | .ldPairImm _ _ | .incInd | .decInd | .jr _ => { m := 3, t := 12 }
  | .jrIf cc off => if (Shape.takenOffset (.jrIf cc off) s).isSome then { m := 3, t := 12 } else { m := 2, t := 8 }

/-- Two decimal digits as packed BCD (47_daa_cpl_scf_ccf.md R180, corner case f). -/
def packedBcd (n : Nat) : Byte := BitVec.ofNat 8 (16 * (n / 10) + n % 10)

end Sys2Proof
end

