-- ==== Sys2Proof/Certificates/Slice0/Obligations.lean ====
section
/-! DEFINITION. The statements about the model, for the provers. Each docstring names the rules of spec/ it formalises. In all of them `exec` runs with PC already past the whole instruction, as the sequencer leaves it (log 11), and `Shape.instr` names the rows of the opcode table by their operands. -/

open Sys2Proof Sys2Proof.Machine

/-! ### What the results of the 8-bit family are, from the formulas of 42_alu8.md -/

/-- A, F and the clock after an addition of `op` and a carry-in (R121), over the integers. -/
def Sys2Proof.expectedAdd (s : State) (op : Byte) (cy : Nat) (clk : ClockState) : State :=
  { s with
    a := BitVec.ofNat 8 (s.a.toNat + op.toNat + cy)
    f := flagByte (decide ((s.a.toNat + op.toNat + cy) % 256 = 0)) false
      (decide (s.a.toNat % 16 + op.toNat % 16 + cy > 0xF)) (decide (s.a.toNat + op.toNat + cy > 0xFF))
    clk := clk }

/-- F after a subtraction of `op` and a borrow-in (R122), over the integers: the right sides do not wrap. -/
def Sys2Proof.expectedSubFlags (s : State) (op : Byte) (cy : Nat) : Byte :=
  flagByte (decide (((s.a.toNat : Int) - op.toNat - cy) % 256 = 0)) true
    (decide (s.a.toNat % 16 < op.toNat % 16 + cy)) (decide (s.a.toNat < op.toNat + cy))

/-- A, F and the clock after a subtraction (R122). -/
def Sys2Proof.expectedSub (s : State) (op : Byte) (cy : Nat) (clk : ClockState) : State :=
  { s with
    a := BitVec.ofInt 8 ((s.a.toNat : Int) - op.toNat - cy)
    f := expectedSubFlags s op cy
    clk := clk }

/-- A, F and the clock after a logic operation with result `v` (R123). -/
def Sys2Proof.expectedLogic (s : State) (v : Byte) (h : Bool) (clk : ClockState) : State :=
  { s with a := v, f := flagByte (decide (v = 0#8)) false h false, clk := clk }

/-! ### Encoding -/

/-- Decode and encode agree (30_encoding.md R60, R61, R67, R68): no operand bit of any instruction is dropped.
The opcode bytes are the spec's own decision D4 (log 3). -/
def Obligations.DecodeInvertsEncode : Prop :=
  ∀ (i : Instr) (rest : List Byte), WellFormed i → decode (encode i ++ rest) = .ok (i, rest)

/-- What the decoder accepts is a well-formed instruction, and the bytes read are its encoding: one meaning per word (R72). -/
def Obligations.EncodeInvertsDecode : Prop :=
  ∀ (bytes rest : List Byte) (i : Instr), decode bytes = .ok (i, rest) → WellFormed i ∧ encode i ++ rest = bytes

/-- One word of each family, written out from the map of R68 (decision D4, log 3). -/
def Obligations.SpecWordsDecode : Prop :=
  decode [0x3E#8, 0x05#8] = .ok (.ldAImm 0x05#8, []) ∧ decode [0x31#8, 0xFE#8, 0xFF#8] = .ok (.ldSpImm16 0xFFFE#16, []) ∧
  decode [0x22#8] = .ok (.ldIndHlIncA, []) ∧ decode [0x99#8] = .ok (.sbcAC, []) ∧
  decode [0x39#8] = .ok (.addHlSp, []) ∧ decode [0x35#8] = .ok (.decIndHl, []) ∧
  decode [0x1F#8] = .ok (.rra, []) ∧ decode [0x20#8, 0xFA#8] = .ok (.jrNz (-6), []) ∧
  decode [0x27#8] = .ok (.daa, []) ∧ decode [0x3F#8] = .ok (.ccf, []) ∧ decode [0x76#8] = .ok (.halt, [])

/-- The 58 unmapped bytes, and no others, are refused by name whatever follows them (R69, R70, R72; the set is the spec's own decision D3, log 3). -/
def Obligations.DecodeRefusesExactlyUnmapped : Prop :=
  ∀ (b : Byte) (rest : List Byte), decode (b :: rest) = .error (.unmapped b) ↔ unmappedOpcode b = true

/-- The opcode byte alone decides the length, which is one, two or three bytes (R60). -/
def Obligations.OpcodeDecidesLength : Prop :=
  ∀ (b : Byte) (xs ys xs' ys' : List Byte) (i j : Instr), decode (b :: xs) = .ok (i, xs') → decode (b :: ys) = .ok (j, ys') →
    i.length = j.length ∧ i.length + xs'.length = 1 + xs.length ∧ 1 ≤ i.length ∧ i.length ≤ 3

/-- `getSignedOffsetByte` (40_sequencer.md R86): two's complement, in [-128, 127], and a relative jump adds it to PC modulo 65536. -/
def Obligations.SignedOffsetByteLaw : Prop :=
  ∀ (b : Byte) (s : State),
    (b.toNat ≤ 0x7F → signed8 b = b.toNat) ∧ (0x80 ≤ b.toNat → signed8 b = (b.toNat : Int) - 0x100) ∧
    -128 ≤ signed8 b ∧ signed8 b ≤ 127 ∧
    ∃ t, exec (Shape.jr (signed8 b)).instr s = .next t ∧
      (t.pc.toNat : Int) = ((s.pc.toNat : Int) + signed8 b) % 65536

/-! ### Registers, flags, memory -/

/-- R10, R27: a write of `v` to one of A, B, C, D, E, H, L stores `v mod 256` and changes no other field of the state: the whole next state.
A direct write to F stores the value masked with 0xF0 (R12): that mask on a host's write is the spec's own decision D24, and that a wide value is masked and not refused is log 9. -/
def Obligations.RegisterWriteWrapsAndIsLocal : Prop :=
  ∀ (s : State) (v : Nat),
    hostAct (.writeReg8 .a v) s = { s with a := BitVec.ofNat 8 (v % 256) } ∧
    hostAct (.writeReg8 .b v) s = { s with b := BitVec.ofNat 8 (v % 256) } ∧
    hostAct (.writeReg8 .c v) s = { s with c := BitVec.ofNat 8 (v % 256) } ∧
    hostAct (.writeReg8 .d v) s = { s with d := BitVec.ofNat 8 (v % 256) } ∧
    hostAct (.writeReg8 .e v) s = { s with e := BitVec.ofNat 8 (v % 256) } ∧
    hostAct (.writeReg8 .h v) s = { s with h := BitVec.ofNat 8 (v % 256) } ∧
    hostAct (.writeReg8 .l v) s = { s with l := BitVec.ofNat 8 (v % 256) } ∧
    hostAct (.writeF v) s = { s with f := BitVec.ofNat 8 (v / 16 % 16 * 16) } ∧
    (∀ r : Reg8, hostRead (.reg8 r) (hostAct (.writeReg8 r v) s) = v % 256) ∧
    hostRead .f (hostAct (.writeF v) s) = v / 16 % 16 * 16

/-- R14: a composite is `(high << 8) | low`; a composite write of `v` sets exactly its two bytes, loses the bits above bit 15, and reads back.
For AF the low byte is masked with 0xF0 (R15). -/
def Obligations.CompositeReadAndWrite : Prop :=
  ∀ (s : State) (v : Nat),
    s.bc.toNat = 256 * s.b.toNat + s.c.toNat ∧ s.de.toNat = 256 * s.d.toNat + s.e.toNat ∧
    s.hl.toNat = 256 * s.h.toNat + s.l.toNat ∧ s.af.toNat = 256 * s.a.toNat + s.f.toNat ∧
    hostAct (.writePair .bc v) s = { s with b := BitVec.ofNat 8 (v / 256), c := BitVec.ofNat 8 v } ∧
    hostAct (.writePair .de v) s = { s with d := BitVec.ofNat 8 (v / 256), e := BitVec.ofNat 8 v } ∧
    hostAct (.writePair .hl v) s = { s with h := BitVec.ofNat 8 (v / 256), l := BitVec.ofNat 8 v } ∧
    hostAct (.writePair .af v) s = { s with a := BitVec.ofNat 8 (v / 256), f := BitVec.ofNat 8 (v / 16 * 16) } ∧
    (∀ p : Pair, p ≠ .af → ((hostAct (.writePair p v) s).pair p).toNat = v % 65536) ∧
    ((hostAct (.writePair .af v) s).pair .af).toNat = v % 65536 / 16 * 16

/-- R20: the views BC, DE, HL and AF are not storage: in every state each is the pack of its two halves.
A write of one half shows in the view and leaves the other half; a write of a pair shows in its halves (F takes the low byte masked, R15); INC C leaves B, INC BC carries into B. -/
def Obligations.PairsAreViewsOfTheirHalves : Prop :=
  ∀ (s : State) (x : Byte) (v : Word),
    (s.bc.toNat = 256 * s.b.toNat + s.c.toNat ∧ s.de.toNat = 256 * s.d.toNat + s.e.toNat ∧
      s.hl.toNat = 256 * s.h.toNat + s.l.toNat ∧ s.af.toNat = 256 * s.a.toNat + s.f.toNat) ∧
    (s.setReg8 .b x).bc.toNat = 256 * x.toNat + s.c.toNat ∧ (s.setReg8 .c x).bc.toNat = 256 * s.b.toNat + x.toNat ∧
    (s.setReg8 .d x).de.toNat = 256 * x.toNat + s.e.toNat ∧ (s.setReg8 .e x).de.toNat = 256 * s.d.toNat + x.toNat ∧
    (s.setReg8 .h x).hl.toNat = 256 * x.toNat + s.l.toNat ∧ (s.setReg8 .l x).hl.toNat = 256 * s.h.toNat + x.toNat ∧
    (s.setReg8 .a x).af.toNat = 256 * x.toNat + s.f.toNat ∧
    ((s.setF x).af.toNat = 256 * s.a.toNat + (s.setF x).f.toNat ∧ (s.setF x).a = s.a) ∧
    (s.setBc v).reg8 .b = v.extractLsb' 8 8 ∧ (s.setBc v).reg8 .c = v.extractLsb' 0 8 ∧
    (s.setDe v).reg8 .d = v.extractLsb' 8 8 ∧ (s.setDe v).reg8 .e = v.extractLsb' 0 8 ∧
    (s.setHl v).reg8 .h = v.extractLsb' 8 8 ∧ (s.setHl v).reg8 .l = v.extractLsb' 0 8 ∧
    (s.setAf v).reg8 .a = v.extractLsb' 8 8 ∧ (s.setAf v).f = v.extractLsb' 4 4 ++ 0b0000#4 ∧
    (s.c = 0xFF#8 → ∃ t, exec .incC s = .next t ∧ t.c = 0x00#8 ∧ t.b = s.b) ∧
    (s.bc = 0x00FF#16 → ∃ t, exec .incBc s = .next t ∧ t.b = 0x01#8 ∧ t.c = 0x00#8)

/-- R17: `setFlag` sets or clears the bit, by the two formulas, and leaves the others and every other register, in every state whose F has bits 3:0 zero; the named bits follow in every state. -/
def Obligations.SetFlagWritesOneBit : Prop :=
  ∀ (s : State) (x : Flag) (v : Bool),
    (∀ y : Flag, (s.setFlag x v).flag y = if y = x then v else s.flag y) ∧
    (s.setFlag x v) = { s with f := (s.setFlag x v).f } ∧
    (s.f &&& 0x0F#8 = 0x00#8 →
      (s.setFlag x v).f = if v then s.f ||| 1#8 <<< x.bit else s.f &&& ~~~(1#8 <<< x.bit))

/-- The cell law of 20_memory.md R42 (the spec's own decision D2, log 7): a read after a write gives the value written at that address and the old byte at every other, and a write touches memory alone.
The premise is the canonical form, which every step keeps (`StepKeepsInvariant`). -/
def Obligations.MemoryCellLaw : Prop :=
  ∀ (s : State) (a b : Word) (v : Byte), Mem.wf s.mem = true →
    (s.writeByte a v).readByte b = (if b = a then v else s.readByte b) ∧
    s.writeByte a v = { s with mem := (s.writeByte a v).mem }

/-- The canonical form is canonical: two stores of that form with equal bytes at every address are equal data (R42; the form is the model's, log 2). -/
def Obligations.CanonicalMemoryIsDeterminedByItsReads : Prop :=
  ∀ m m' : List Host.Cell, Mem.wf m = true → Mem.wf m' = true →
    (∀ a : Nat, a < 65536 → Mem.read m a = Mem.read m' a) → m = m'

/-! ### The sequencer -/

/-- A step runs the decoded instruction (40_sequencer.md R80, R82, R84, R85): when the bytes at PC decode to `i`, the step is `exec i` at the state whose PC is past the instruction's bytes, and nothing more. -/
def Obligations.StepRunsDecodedInstruction : Prop :=
  ∀ (s : State) (i : Instr) (rest : List Byte), s.halted = false → decode (bytesAtPc s) = .ok (i, rest) →
    step s = exec i { s with pc := s.pc + BitVec.ofNat 16 i.length }

/-- R81 (identity by the spec's own decision D8, log 5): a halted step is the identity, whatever byte is at PC. -/
def Obligations.HaltedStepIsIdentity : Prop :=
  ∀ s : State, s.halted = true → step s = .next s

/-- R202: a dispatch miss raises IllegalOpcode with PC advanced past the byte, modulo 65536, and no other part of the state changed.
That the state left stands in the fault is the model's choice (log 10); that ClockState is among what is unchanged is the spec's own decision D10. -/
def Obligations.DispatchMissLeavesOnlyPcAdvanced : Prop :=
  ∀ s : State, s.halted = false → opcodeTable (s.readByte s.pc) = none →
    step s = .fault (.illegalOpcode (s.readByte s.pc) s.pc
      { s with pc := BitVec.ofNat 16 ((s.pc.toNat + 1) % 65536) })

/-- R2, R201: every instruction completes on every state, so the step raises IllegalOpcode exactly on a dispatch miss of a running core, with the opcode byte and its address, and never stops otherwise. -/
def Obligations.StepFailsOnlyOnDispatchMiss : Prop :=
  (∀ (i : Instr) (s : State), ∃ t, exec i s = .next t) ∧
  (∀ (s : State) (opcode : Byte) (pcFetch : Word), (∃ left, step s = .fault (.illegalOpcode opcode pcFetch left)) ↔
    (s.halted = false ∧ opcode = s.readByte s.pc ∧ pcFetch = s.pc ∧ opcodeTable opcode = none)) ∧
  (∀ (s : State) (r : Refusal), step s ≠ .refused r)

/-- R89, R207: the three outcomes of a step, in the order of its checks.
Halted: unchanged. Executed: the handler's whole effect, PC past the instruction or at the jump target, the clock holding its cost. Miss: PC advanced by one.
The halted step is the identity by the spec's own decision D8 (log 5), the state of a miss stands in the fault by the model's choice (log 10; D10), and the clock's costs of `LD rr,d16` and `JR r8` are the spec's own decisions D5 (log 3) and D27. -/
def Obligations.StepHasThreeOutcomes : Prop :=
  ∀ s : State,
    (s.halted = true ∧ step s = .next s) ∨
    (s.halted = false ∧ ∃ i rest t, decode (bytesAtPc s) = .ok (i, rest) ∧ step s = .next t ∧
      exec i { s with pc := s.pc + BitVec.ofNat 16 i.length } = .next t ∧
      t.clk = i.shape.clockAfter s ∧
      (t.pc = s.pc + BitVec.ofNat 16 i.length ∨
        ∃ off, i.shape.takenOffset s = some off ∧ t.pc = s.pc + BitVec.ofNat 16 i.length + BitVec.ofInt 16 off)) ∨
    (s.halted = false ∧ decode (bytesAtPc s) = .error (.unmapped (s.readByte s.pc)) ∧
      step s = .fault (.illegalOpcode (s.readByte s.pc) s.pc { s with pc := s.pc + 1#16 }))

/-- 10_state.md R13: after a non-jumping instruction of length n, PC is `(pc + n) mod 65536`. -/
def Obligations.NonJumpAdvancesPcByLength : Prop :=
  ∀ (s : State) (i : Instr) (rest : List Byte), s.halted = false → decode (bytesAtPc s) = .ok (i, rest) →
    i.shape.takenOffset s = none →
    ∃ t, step s = .next t ∧ t.pc.toNat = (s.pc.toNat + i.length) % 65536

/-- 46_jr.md R170: a taken jump at `pc0` goes to `(pc0 + 2 + off) mod 65536` with `off` the signed byte after the opcode, in [-128, 127], so from `pc0 - 126` to `pc0 + 129`; a jump not taken leaves `(pc0 + 2) mod 65536`.
The condition is the model's `cond` (decision D21 of the spec, log 4). -/
def Obligations.RelativeTargetLaw : Prop :=
  ∀ (s : State) (i : Instr) (rest : List Byte) (off : Int) (cc : Cond), s.halted = false →
    decode (bytesAtPc s) = .ok (i, rest) → (i.shape = .jr off ∨ i.shape = .jrIf cc off) →
    off = signed8 (s.readByte (s.pc + 1#16)) ∧ -128 ≤ off ∧ off ≤ 127 ∧
    ∃ t, step s = .next t ∧
      ((i.shape = .jr off ∨ s.cond cc = true) → (t.pc.toNat : Int) = (s.pc.toNat + 2 + off) % 65536) ∧
      ((i.shape = .jrIf cc off ∧ s.cond cc = false) → t.pc.toNat = (s.pc.toNat + 2) % 65536)

/-- R43, R85, R114, R115: the 16-bit immediate is read low byte first, at the two addresses after the opcode modulo 65536, and PC ends three bytes on.
The opcode pattern is the spec's own decision D4, and that these loads are mapped and cost (3, 12) is D5 (log 3). -/
def Obligations.WordImmediateIsLittleEndianInTheStream : Prop :=
  ∀ (s : State) (rr : Reg16), s.halted = false → s.readByte s.pc = 0b00#2 ++ rr.code ++ 0b0001#4 →
    ∃ t, step s = .next t ∧
      (t.reg16 rr).toNat = (s.readByte (s.pc + 1#16)).toNat + 256 * (s.readByte (s.pc + 2#16)).toNat ∧
      t.pc.toNat = (s.pc.toNat + 3) % 65536 ∧ t.clk = { m := 3, t := 12 }

/-- 20_memory.md R49: a byte stored by a step is what the next step fetches if PC then points at it, with no fence; and `LD (HL),d8` aimed at its own immediate executes as fetched and leaves every byte as it was.
R49 is the spec's own reading (decision D22, over the flat memory of D2: log 7; the order of the accesses: D19), and the opcode 0x36 its decision D4 (log 3). -/
def Obligations.StoreIsSeenByTheNextFetch : Prop :=
  (∀ (s t : State) (i : Instr) (rest : List Byte) (v : Byte), Mem.wf s.mem = true → s.halted = false →
    decode (bytesAtPc s) = .ok (i, rest) → step s = .next t → i.shape.store s = some (t.pc, v) →
    (fetchByte t).1 = v) ∧
  (∀ s : State, Mem.wf s.mem = true → s.halted = false → s.readByte s.pc = 0x36#8 → s.hl = s.pc + 1#16 →
    ∃ t, step s = .next t ∧ ∀ a : Word, t.readByte a = s.readByte a)

/-- R22, R23, R88, R91: `ime` is read by no step and `stopped` by none: a step with other values of them differs in those two fields only.
That `stopped` gates nothing is the spec's own decision D9 (90_conflicts.md C1, log 5). -/
def Obligations.StoppedAndImeGateNothing : Prop :=
  ∀ (s : State) (stopped ime : Bool),
    match step s with
    | .next t => ∃ t', step { s with stopped := stopped, ime := ime } = .next t' ∧ t'.ime = ime ∧
        t = { t' with stopped := t.stopped, ime := s.ime }
    | .fault (.illegalOpcode opcode pcFetch left) =>
        step { s with stopped := stopped, ime := ime } =
          .fault (.illegalOpcode opcode pcFetch { left with stopped := stopped, ime := ime })
    | .refused _ => False

/-! ### Invariants and runs -/

/-- The values after construction that the spec fixes (10_state.md R31): running, not stopped, F[3:0] zero.
The rest is the model's choice of the spec's defaults (log 1, log 2): registers, clock and every byte of memory zero, `ime` false. -/
def Obligations.ResetStateValues : Prop :=
  State.reset.halted = false ∧ State.reset.stopped = false ∧ State.reset.f &&& 0x0F#8 = 0x00#8 ∧
  (∀ r : Reg8, State.reset.reg8 r = 0x00#8) ∧ State.reset.f = 0x00#8 ∧ State.reset.pc = 0x0000#16 ∧
  State.reset.sp = 0x0000#16 ∧ State.reset.clk = { m := 0, t := 0 } ∧ State.reset.ime = false ∧
  ∀ a : Word, State.reset.readByte a = 0x00#8

/-- The invariant holds after construction, for every choice of `INIT` and `INIT_MEM` (R31), and at `State.reset`. -/
def Obligations.ConstructionMeetsInvariant : Prop :=
  Inv State.reset ∧ ∀ (init : Config.Init) (initMem : List Host.Cell),
    Inv (construct init initMem) ∧ (construct init initMem).halted = false ∧ (construct init initMem).stopped = false

/-- From every state that meets the invariant, a step's next state meets it, and so does the state an IllegalOpcode leaves: F[3:0] stays zero (R12) and the store keeps its canonical form. -/
def Obligations.StepKeepsInvariant : Prop :=
  ∀ s : State, Inv s →
    (∀ t, step s = .next t → Inv t) ∧
    (∀ opcode pcFetch left, step s = .fault (.illegalOpcode opcode pcFetch left) → Inv left)

/-- 10_state.md R29 (an inference the spec marks as its own): in every state reachable from construction by steps and host acts, F[3:0] is zero and the store is canonical; once a handler has executed, t = 4m and (m, t) is (1,4), (2,8) or (3,12).
The ranges of the registers are their types.
That the store is canonical is the model's own form (log 2), no part of R29. -/
def Obligations.ReachableStatesMeetR29 : Prop :=
  ∀ (s : State) (ran : Bool), Reachable s ran → Inv s ∧ (ran = true → LegalClock s.clk ∧ s.clk.t = 4 * s.clk.m)

/-- 70_reset_and_hazards.md R236 (the spec's own decision D20): a halted state is quiescent.
A run that ends normally never faults, and every longer run is in the same state.
It rests on the halted step being the identity (D8, log 5). -/
def Obligations.HaltedRunIsFinalAndSafe : Prop :=
  ∀ (s t : State) (k : Nat), EndsIn k s t → SafeRun s ∧ ∀ j, k ≤ j → core.run j s = .next t

/-! ### Whole-machine rules, over all instructions -/

/-- R3: an instruction completes, changes neither `ime` nor, unless it is HALT or STOP, the run flags. -/
def Obligations.SideEffectsAreConfined : Prop :=
  ∀ (i : Instr) (s : State), ∃ t, exec i s = .next t ∧ t.ime = s.ime ∧
    (i ≠ .halt → t.halted = s.halted) ∧ (i ≠ .stop → t.stopped = s.stopped)

/-- The frame of the eight-bit registers, for all instructions: only the destination and what the addressing updates change (10_state.md R11; 41 to 48). -/
def Obligations.OnlyDestinationRegistersChange : Prop :=
  ∀ (i : Instr) (s t : State) (r : Reg8), exec i s = .next t → r ∉ i.shape.regsWritten → t.reg8 r = s.reg8 r

/-- The frame of SP and PC: SP changes by `LD SP,d16`, `INC SP`, `DEC SP` only (R16), PC by a taken jump only, past the advance of the fetch (R13). -/
def Obligations.OnlySpInstructionsAndJumpsChangeSpAndPc : Prop :=
  ∀ (i : Instr) (s t : State), exec i s = .next t →
    (i.shape.writesSp = false → t.sp = s.sp) ∧ (i.shape.takenOffset s = none → t.pc = s.pc)

/-- The frame of the flags (10_state.md R18): a flag outside the instruction's "written by" list keeps its value, and an instruction that writes no flag keeps all of F. -/
def Obligations.OnlyListedFlagsChange : Prop :=
  ∀ (i : Instr) (s t : State), exec i s = .next t →
    (∀ x : Flag, x ∉ i.shape.flagsWritten → t.flag x = s.flag x) ∧ (i.shape.flagsWritten = [] → t.f = s.f)

/-- Who reads a flag (10_state.md R18, "read by"): another value of a flag outside that list changes no register, no clock, no byte of memory and no other flag, and not that flag either if the instruction writes it. -/
def Obligations.OnlyListedFlagsAreRead : Prop :=
  ∀ (i : Instr) (s t : State) (x : Flag) (v : Bool), exec i s = .next t → x ∉ i.shape.flagsRead →
    ∃ t', exec i (s.setFlag x v) = .next t' ∧ { t' with f := t.f } = t ∧
      (∀ y : Flag, y ≠ x ∨ x ∈ i.shape.flagsWritten → t'.flag y = t.flag y)

/-- The frame of memory, for all instructions (20_memory.md R46, R53): every byte but the one the instruction stores to reads as before; for a form that stores nothing, every byte.
The address is the model's own: HL, or the address register of the operand, before the instruction.
It rests on the flat memory of the spec's decision D2 (log 7). -/
def Obligations.OnlyTheStoredByteChanges : Prop :=
  ∀ (i : Instr) (s t : State) (a : Word), exec i s = .next t →
    (∀ addr v, i.shape.store s = some (addr, v) → a ≠ addr) → t.readByte a = s.readByte a

/-- What an instruction stores reads back (20_memory.md R53).
That a read gives the byte last written is the spec's own decision D2 (20_memory.md R42, log 7). -/
def Obligations.StoredByteReadsBack : Prop :=
  ∀ (i : Instr) (s : State) (addr : Word) (v : Byte), Mem.wf s.mem = true → i.shape.store s = some (addr, v) →
    ∃ t, exec i s = .next t ∧ t.readByte addr = v

/-- Every instruction leaves its own cost in ClockState (R19, R87, R235), one of (1,4), (2,8), (3,12), whatever it held before.
The costs of `LD rr,d16` and `JR r8` are the spec's own decisions D5 and D27. -/
def Obligations.ClockHoldsTheInstructionsCost : Prop :=
  ∀ (i : Instr) (s : State), ∃ t, exec i s = .next t ∧ t.clk = i.shape.clockAfter s ∧ LegalClock t.clk ∧ t.clk.t = 4 * t.clk.m

/-! ### Results, family by family: the whole next state -/

/-- R101, R102, R104: register loads. -/
def Obligations.RegisterLoadsWriteTheirDestination : Prop :=
  ∀ (dst src : Reg8) (d8 : Byte) (s : State),
    exec (Shape.ldRegReg dst src).instr s = .next { s.setReg8 dst (s.reg8 src) with clk := { m := 1, t := 4 } } ∧
    exec (Shape.ldRegInd dst).instr s = .next { s.setReg8 dst (s.readByte s.hl) with clk := { m := 2, t := 8 } } ∧
    exec (Shape.ldRegImm dst d8).instr s = .next { s.setReg8 dst d8 with clk := { m := 2, t := 8 } }

/-- R103, R105: stores through HL, of a register as it was before the instruction and of an immediate. -/
def Obligations.StoresThroughHlWriteOneByte : Prop :=
  ∀ (src : Reg8) (d8 : Byte) (s : State),
    exec (Shape.ldIndReg src).instr s = .next { s.writeByte s.hl (s.reg8 src) with clk := { m := 2, t := 8 } } ∧
    exec (Shape.ldIndImm d8).instr s = .next { s.writeByte s.hl d8 with clk := { m := 3, t := 12 } }

/-- R106 to R113: accumulator loads and stores; the forms with HL use HL before its change by one modulo 65536 (the spec's own decision D14, log 3). -/
def Obligations.AccumulatorIndirectForms : Prop :=
  ∀ s : State,
    let inc := (s.hl.toNat + 1) % 65536
    let dec := (s.hl.toNat + 65535) % 65536
    exec .ldIndBcA s = .next { s.writeByte s.bc s.a with clk := { m := 2, t := 8 } } ∧
    exec .ldIndDeA s = .next { s.writeByte s.de s.a with clk := { m := 2, t := 8 } } ∧
    exec .ldIndHlIncA s = .next { s.writeByte s.hl s.a with
      h := BitVec.ofNat 8 (inc / 256), l := BitVec.ofNat 8 inc, clk := { m := 2, t := 8 } } ∧
    exec .ldIndHlDecA s = .next { s.writeByte s.hl s.a with
      h := BitVec.ofNat 8 (dec / 256), l := BitVec.ofNat 8 dec, clk := { m := 2, t := 8 } } ∧
    exec .ldAIndBc s = .next { s with a := s.readByte s.bc, clk := { m := 2, t := 8 } } ∧
    exec .ldAIndDe s = .next { s with a := s.readByte s.de, clk := { m := 2, t := 8 } } ∧
    exec .ldAIndHlInc s = .next { s with
      a := s.readByte s.hl, h := BitVec.ofNat 8 (inc / 256), l := BitVec.ofNat 8 inc, clk := { m := 2, t := 8 } } ∧
    exec .ldAIndHlDec s = .next { s with
      a := s.readByte s.hl, h := BitVec.ofNat 8 (dec / 256), l := BitVec.ofNat 8 dec, clk := { m := 2, t := 8 } }

/-- R114, R115: the 16-bit immediate loads (in the mapped set, with cost 12, by the spec's own decision D5, log 3). -/
def Obligations.WordImmediateLoads : Prop :=
  ∀ (d16 : Word) (s : State),
    exec (.ldBcImm16 d16) s = .next { s with
      b := BitVec.ofNat 8 (d16.toNat / 256), c := BitVec.ofNat 8 d16.toNat, clk := { m := 3, t := 12 } } ∧
    exec (.ldDeImm16 d16) s = .next { s with
      d := BitVec.ofNat 8 (d16.toNat / 256), e := BitVec.ofNat 8 d16.toNat, clk := { m := 3, t := 12 } } ∧
    exec (.ldHlImm16 d16) s = .next { s with
      h := BitVec.ofNat 8 (d16.toNat / 256), l := BitVec.ofNat 8 d16.toNat, clk := { m := 3, t := 12 } } ∧
    exec (.ldSpImm16 d16) s = .next { s with sp := d16, clk := { m := 3, t := 12 } }

/-- R121, for ADD and ADC with every operand form of R120: result and flags over the unbounded sum, the old Carry taken by ADC only. -/
def Obligations.AddAndAdcFollowTheAddFunction : Prop :=
  ∀ (s : State) (src : Reg8) (d8 : Byte) (withCarry : Bool),
    let op := if withCarry then AluOp.adc else AluOp.add
    let cy := if withCarry then (s.flag .carry).toNat else 0
    exec (Shape.aluReg op src).instr s = .next (expectedAdd s (s.reg8 src) cy { m := 1, t := 4 }) ∧
    exec (Shape.aluInd op).instr s = .next (expectedAdd s (s.readByte s.hl) cy { m := 2, t := 8 }) ∧
    exec (Shape.aluImm op d8).instr s = .next (expectedAdd s d8 cy { m := 2, t := 8 })

/-- R122, for SUB and SBC with every operand form of R120: result modulo 256, the borrows against unbounded right sides (90_conflicts.md C8). -/
def Obligations.SubAndSbcFollowTheSubtractFunction : Prop :=
  ∀ (s : State) (src : Reg8) (d8 : Byte) (withCarry : Bool),
    let op := if withCarry then AluOp.sbc else AluOp.sub
    let cy := if withCarry then (s.flag .carry).toNat else 0
    exec (Shape.aluReg op src).instr s = .next (expectedSub s (s.reg8 src) cy { m := 1, t := 4 }) ∧
    exec (Shape.aluInd op).instr s = .next (expectedSub s (s.readByte s.hl) cy { m := 2, t := 8 }) ∧
    exec (Shape.aluImm op d8).instr s = .next (expectedSub s d8 cy { m := 2, t := 8 })

/-- R123, for AND, XOR and OR with every operand form of R120: AND sets HalfCarry, the others clear it; Carry and Subtract are cleared; the old flags play no part. -/
def Obligations.LogicFollowsTheLogicFunctions : Prop :=
  ∀ (s : State) (src : Reg8) (d8 : Byte),
    exec (Shape.aluReg .and src).instr s = .next (expectedLogic s (s.a &&& s.reg8 src) true { m := 1, t := 4 }) ∧
    exec (Shape.aluInd .and).instr s = .next (expectedLogic s (s.a &&& s.readByte s.hl) true { m := 2, t := 8 }) ∧
    exec (Shape.aluImm .and d8).instr s = .next (expectedLogic s (s.a &&& d8) true { m := 2, t := 8 }) ∧
    exec (Shape.aluReg .xor src).instr s = .next (expectedLogic s (s.a ^^^ s.reg8 src) false { m := 1, t := 4 }) ∧
    exec (Shape.aluInd .xor).instr s = .next (expectedLogic s (s.a ^^^ s.readByte s.hl) false { m := 2, t := 8 }) ∧
    exec (Shape.aluImm .xor d8).instr s = .next (expectedLogic s (s.a ^^^ d8) false { m := 2, t := 8 }) ∧
    exec (Shape.aluReg .or src).instr s = .next (expectedLogic s (s.a ||| s.reg8 src) false { m := 1, t := 4 }) ∧
    exec (Shape.aluInd .or).instr s = .next (expectedLogic s (s.a ||| s.readByte s.hl) false { m := 2, t := 8 }) ∧
    exec (Shape.aluImm .or d8).instr s = .next (expectedLogic s (s.a ||| d8) false { m := 2, t := 8 })

/-- R145 to R147: CP writes the flags of a subtraction and keeps A (the spec's own decision D15, log 4). -/
def Obligations.CompareWritesFlagsOnly : Prop :=
  ∀ (s : State) (src : Reg8) (d8 : Byte),
    exec (Shape.aluReg .cp src).instr s = .next { s with f := expectedSubFlags s (s.reg8 src) 0, clk := { m := 1, t := 4 } } ∧
    exec (Shape.aluInd .cp).instr s = .next { s with f := expectedSubFlags s (s.readByte s.hl) 0, clk := { m := 2, t := 8 } } ∧
    exec (Shape.aluImm .cp d8).instr s = .next { s with f := expectedSubFlags s d8 0, clk := { m := 2, t := 8 } }

/-- The identity of 42_alu8.md's arithmetic laws: subtracting is adding the complement with the borrow inverted, C and H complemented. -/
def Obligations.SubtractionIsAdditionOfTheComplement : Prop :=
  ∀ (a op : Byte) (cy : Bool),
    (sub8 a op cy).result = (add8 a (~~~op) (!cy)).result ∧ (sub8 a op cy).c = !(add8 a (~~~op) (!cy)).c ∧
    (sub8 a op cy).h = !(add8 a (~~~op) (!cy)).h ∧ (sub8 a op cy).z = (add8 a (~~~op) (!cy)).z

/-- R150: `ADD HL,rr` for every operand, HL and SP included: half-carry at bit 11, carry at bit 15, N cleared, Z kept. -/
def Obligations.AddHlFollowsItsRule : Prop :=
  ∀ (s : State) (rr : Reg16),
    exec (Shape.addHl rr).instr s = .next { s with
      h := BitVec.ofNat 8 ((s.hl.toNat + (s.reg16 rr).toNat) / 256)
      l := BitVec.ofNat 8 (s.hl.toNat + (s.reg16 rr).toNat)
      f := flagByte (s.flag .zero) false
        (decide (s.hl.toNat % 4096 + (s.reg16 rr).toNat % 4096 > 0x0FFF))
        (decide (s.hl.toNat + (s.reg16 rr).toNat > 0xFFFF))
      clk := { m := 2, t := 8 } }

/-- R155, R156: 8-bit increment of a register and of the byte at HL; Carry kept. -/
def Obligations.IncrementOfAByte : Prop :=
  ∀ (s : State) (r : Reg8),
    let flags := fun v : Byte => flagByte (decide ((v.toNat + 1) % 256 = 0)) false (decide (v.toNat % 16 + 1 > 0xF)) (s.flag .carry)
    exec (Shape.incReg r).instr s = .next { s.setReg8 r (BitVec.ofNat 8 ((s.reg8 r).toNat + 1)) with
      f := flags (s.reg8 r), clk := { m := 1, t := 4 } } ∧
    exec .incIndHl s = .next { s.writeByte s.hl (BitVec.ofNat 8 ((s.readByte s.hl).toNat + 1)) with
      f := flags (s.readByte s.hl), clk := { m := 3, t := 12 } }

/-- R157, R158: 8-bit decrement of a register and of the byte at HL; Carry kept. -/
def Obligations.DecrementOfAByte : Prop :=
  ∀ (s : State) (r : Reg8),
    let flags := fun v : Byte => flagByte (decide (v.toNat = 1)) true (decide (v.toNat % 16 < 1)) (s.flag .carry)
    exec (Shape.decReg r).instr s = .next { s.setReg8 r (BitVec.ofNat 8 ((s.reg8 r).toNat + 255)) with
      f := flags (s.reg8 r), clk := { m := 1, t := 4 } } ∧
    exec .decIndHl s = .next { s.writeByte s.hl (BitVec.ofNat 8 ((s.readByte s.hl).toNat + 255)) with
      f := flags (s.readByte s.hl), clk := { m := 3, t := 12 } }

/-- R159, R160: 16-bit increment and decrement of BC, DE, HL and SP modulo 65536; no flag (SP is in the set by the spec's own decision D6, log 3). -/
def Obligations.IncrementAndDecrementOfAPair : Prop :=
  ∀ (s : State) (rr : Reg16),
    exec (Shape.incPair rr).instr s = .next { s.setReg16 rr (BitVec.ofNat 16 ((s.reg16 rr).toNat + 1)) with clk := { m := 2, t := 8 } } ∧
    exec (Shape.decPair rr).instr s = .next { s.setReg16 rr (BitVec.ofNat 16 ((s.reg16 rr).toNat + 65535)) with clk := { m := 2, t := 8 } } ∧
    ∀ v : Word, (s.setReg16 rr v).reg16 rr = v

/-- Law L3 (44_incdec.md, the ±1 rule): INC r gives the value, Z, N and H that ADD A,1 gives on that value, DEC r those of SUB A,1, and both keep Carry. -/
def Obligations.IncDecAgreeWithAddSubOfOne : Prop :=
  ∀ (s u : State) (r : Reg8), u.a = s.reg8 r →
    (∃ t w, exec (Shape.incReg r).instr s = .next t ∧ exec (.addAImm 1#8) u = .next w ∧ t.reg8 r = w.a ∧
      t.flag .zero = w.flag .zero ∧ t.flag .subtract = w.flag .subtract ∧ t.flag .halfCarry = w.flag .halfCarry ∧
      t.flag .carry = s.flag .carry) ∧
    (∃ t w, exec (Shape.decReg r).instr s = .next t ∧ exec (.subAImm 1#8) u = .next w ∧ t.reg8 r = w.a ∧
      t.flag .zero = w.flag .zero ∧ t.flag .subtract = w.flag .subtract ∧ t.flag .halfCarry = w.flag .halfCarry ∧
      t.flag .carry = s.flag .carry)

/-- R165 to R168: the four rotates; the circular forms rotate the 8 bits of A, the through-carry forms the 9 bits of Carry and A.
Which mnemonic is which of the last three is from general knowledge in the spec (G6, log 4). -/
def Obligations.RotatesOfA : Prop :=
  ∀ s : State,
    let left := (BitVec.ofBool (s.flag .carry) ++ s.a).rotateLeft 1
    let right := (s.a ++ BitVec.ofBool (s.flag .carry)).rotateRight 1
    exec .rlca s = .next { s with a := s.a.rotateLeft 1, f := flagByte false false false (s.a.getLsbD 7), clk := { m := 1, t := 4 } } ∧
    exec .rrca s = .next { s with a := s.a.rotateRight 1, f := flagByte false false false (s.a.getLsbD 0), clk := { m := 1, t := 4 } } ∧
    exec .rla s = .next { s with a := left.extractLsb' 0 8, f := flagByte false false false (left.getLsbD 8), clk := { m := 1, t := 4 } } ∧
    exec .rra s = .next { s with a := right.extractLsb' 1 8, f := flagByte false false false (right.getLsbD 0), clk := { m := 1, t := 4 } }

/-- Law L6: eight RLCA restore A, nine RLA restore A and Carry.
That RLA names the rotate through Carry is from general knowledge in the spec (G6, log 4). -/
def Obligations.RotationsComeRound : Prop :=
  ∀ s : State,
    (Nat.iterate rotLeftCircular 8 s).a = s.a ∧
    (Nat.iterate rotLeftCarry 9 s).a = s.a ∧ (Nat.iterate rotLeftCarry 9 s).flag .carry = s.flag .carry ∧
    exec .rlca s = .next ((rotLeftCircular s).setClock 4) ∧ exec .rla s = .next ((rotLeftCarry s).setClock 4)

/-- R171 to R175: the relative jumps, on every offset; (3, 12) if taken, (2, 8) if not; no flag.
The meanings of Z, NC and C are the spec's own decision D21 (log 4). -/
def Obligations.RelativeJumps : Prop :=
  ∀ (s : State) (off : Int),
    let taken := Host.Outcome.next (φ := Fault) (ρ := Refusal)
      { s with pc := BitVec.ofInt 16 ((s.pc.toNat : Int) + off), clk := { m := 3, t := 12 } }
    let fallsThrough := Host.Outcome.next (φ := Fault) (ρ := Refusal) { s with clk := { m := 2, t := 8 } }
    exec (.jr off) s = taken ∧
    exec (.jrNz off) s = (if s.f.getLsbD 7 = false then taken else fallsThrough) ∧
    exec (.jrZ off) s = (if s.f.getLsbD 7 = true then taken else fallsThrough) ∧
    exec (.jrNc off) s = (if s.f.getLsbD 4 = false then taken else fallsThrough) ∧
    exec (.jrC off) s = (if s.f.getLsbD 4 = true then taken else fallsThrough)

/-- R180: DAA, over the integers; N kept, H cleared, Carry set with the 0x60 term and never cleared.
The conditions are the spec's own decision D12 (log 4). -/
def Obligations.DecimalAdjustFollowsItsRule : Prop :=
  ∀ s : State,
    let a := s.a.toNat
    let n := s.flag .subtract
    let low := s.flag .halfCarry || (!n && decide (a % 16 > 9))
    let high := s.flag .carry || (!n && decide (a > 0x99))
    let adj : Int := (if low then 0x06 else 0) + (if high then 0x60 else 0)
    let result := BitVec.ofInt 8 (if n then (a : Int) - adj else (a : Int) + adj)
    exec .daa s = .next { s with a := result, f := flagByte (decide (result = 0#8)) n false high, clk := { m := 1, t := 4 } }

/-- R180 corner case (f), law L7: DAA after ADD A,B of two packed-BCD bytes gives the packed BCD of the sum modulo 100 with Carry the hundreds digit.
It rests on the conditions of DAA, the spec's own decision D12 (G3, log 4). -/
def Obligations.DaaCorrectsBcdAddition : Prop :=
  ∀ (s : State) (x y : Nat), x < 100 → y < 100 → s.a = packedBcd x → s.b = packedBcd y →
    ∃ t u, exec .addAB s = .next t ∧ exec .daa t = .next u ∧
      u.a = packedBcd ((x + y) % 100) ∧ u.flag .carry = decide (x + y ≥ 100)

/-- R180 corner case (f), law L7: DAA after SUB A,B of two packed-BCD bytes gives the packed BCD of the difference modulo 100 with Carry the borrow.
It rests on the conditions of DAA, the spec's own decision D12 (G3, log 4). -/
def Obligations.DaaCorrectsBcdSubtraction : Prop :=
  ∀ (s : State) (x y : Nat), x < 100 → y < 100 → s.a = packedBcd x → s.b = packedBcd y →
    ∃ t u, exec .subAB s = .next t ∧ exec .daa t = .next u ∧
      u.a = packedBcd ((x + 100 - y) % 100) ∧ u.flag .carry = decide (x < y)

/-- R181 to R183: CPL keeps Z and C, SCF and CCF keep Z. -/
def Obligations.ComplementAndCarryInstructions : Prop :=
  ∀ s : State,
    exec .cpl s = .next { s with
      a := BitVec.ofNat 8 (255 - s.a.toNat), f := flagByte (s.flag .zero) true true (s.flag .carry), clk := { m := 1, t := 4 } } ∧
    exec .scf s = .next { s with f := flagByte (s.flag .zero) false false true, clk := { m := 1, t := 4 } } ∧
    exec .ccf s = .next { s with f := flagByte (s.flag .zero) false false (!s.flag .carry), clk := { m := 1, t := 4 } }

/-- R185, R186 (STOP is one byte by the spec's own decision D7, log 3): HALT sets `halted`, STOP sets `stopped`, and nothing else but the clock changes. -/
def Obligations.HaltAndStopSetTheirFlag : Prop :=
  ∀ s : State,
    exec .halt s = .next { s with halted := true, clk := { m := 1, t := 4 } } ∧
    exec .stop s = .next { s with stopped := true, clk := { m := 1, t := 4 } }

/-! ### The host -/

/-- R24, R27: what every act of the host does, the whole next state: each changes what it names and nothing else, no act touches ClockState, and each keeps the invariant.
That a wide value is masked to the width of what it is written to, and that the host acts between steps, is the model's log 9 (decision D17 of the spec); the mask on a direct write of F is D24; the bodies of the two interrupt operations are D13; a memory write through the host's own reference goes to the cell of R42 (D2, log 7). -/
def Obligations.HostActsChangeOnlyWhatTheyName : Prop :=
  ∀ (s : State) (v : Bool) (n : Nat) (r : Reg8) (p : Pair) (a : Word) (op : HostOp),
    hostAct (.writeReg8 r n) s = s.setReg8 r (BitVec.ofNat 8 (n % 256)) ∧
    hostAct (.writeF n) s = { s with f := BitVec.ofNat 8 (n / 16 % 16 * 16) } ∧
    hostAct (.writePc n) s = { s with pc := BitVec.ofNat 16 (n % 65536) } ∧
    hostAct (.writeSp n) s = { s with sp := BitVec.ofNat 16 (n % 65536) } ∧
    hostAct (.writePair p n) s = s.setPair p (BitVec.ofNat 16 (n % 65536)) ∧
    hostAct (.writeHalted v) s = { s with halted := v } ∧ hostAct (.writeStopped v) s = { s with stopped := v } ∧
    hostAct (.writeIme v) s = { s with ime := v } ∧
    hostAct .enableInterrupts s = { s with ime := true } ∧ hostAct .disableInterrupts s = { s with ime := false } ∧
    hostAct (.writeMem a n) s = s.writeByte a (BitVec.ofNat 8 n) ∧
    (hostAct op s).clk = s.clk ∧ (Inv s → Inv (hostAct op s))
end

