-- ==== Sys2Proof/Laws/PerInstr.lean ====
section
/-! SUPPORT. The family `Form`: what an instruction is as syntax. Its form names it back, and its length is that of its encoding, one to three bytes. -/

namespace Sys2Proof.Laws.Form

/-- The instruction is the one its form names, its encoding has its length, and the length is 1, 2 or 3 (30_encoding.md R60). -/
def Statement (i : Sys2Proof.Instr) : Prop :=
  i.shape.instr = i ∧ (Sys2Proof.encode i).length = i.length ∧ 1 ≤ i.length ∧ i.length ≤ 3

/-- Only the first part needs the instruction. -/
theorem of_shape {i : Sys2Proof.Instr} (h : i.shape.instr = i) : Statement i := by
  refine ⟨h, ?_, ?_, ?_⟩
  · simp [Sys2Proof.encode, Sys2Proof.Instr.length, Nat.add_comm]
  · simp [Sys2Proof.Instr.length]
  · cases hs : i.shape <;> simp [Sys2Proof.Instr.length, Sys2Proof.Shape.operandBytes, hs]

theorem ldBcImm16 (d16 : Sys2Proof.Word) : Statement (.ldBcImm16 d16) := of_shape rfl
theorem ldIndBcA : Statement .ldIndBcA := of_shape rfl
theorem incBc : Statement .incBc := of_shape rfl
theorem incB : Statement .incB := of_shape rfl
theorem decB : Statement .decB := of_shape rfl
theorem ldBImm (d8 : Sys2Proof.Byte) : Statement (.ldBImm d8) := of_shape rfl
theorem rlca : Statement .rlca := of_shape rfl
theorem addHlBc : Statement .addHlBc := of_shape rfl
theorem ldAIndBc : Statement .ldAIndBc := of_shape rfl
theorem decBc : Statement .decBc := of_shape rfl
theorem incC : Statement .incC := of_shape rfl
theorem decC : Statement .decC := of_shape rfl
theorem ldCImm (d8 : Sys2Proof.Byte) : Statement (.ldCImm d8) := of_shape rfl
theorem rrca : Statement .rrca := of_shape rfl
theorem stop : Statement .stop := of_shape rfl
theorem ldDeImm16 (d16 : Sys2Proof.Word) : Statement (.ldDeImm16 d16) := of_shape rfl
theorem ldIndDeA : Statement .ldIndDeA := of_shape rfl
theorem incDe : Statement .incDe := of_shape rfl
theorem incD : Statement .incD := of_shape rfl
theorem decD : Statement .decD := of_shape rfl
theorem ldDImm (d8 : Sys2Proof.Byte) : Statement (.ldDImm d8) := of_shape rfl
theorem rla : Statement .rla := of_shape rfl
theorem jr (off : Int) : Statement (.jr off) := of_shape rfl
theorem addHlDe : Statement .addHlDe := of_shape rfl
theorem ldAIndDe : Statement .ldAIndDe := of_shape rfl
theorem decDe : Statement .decDe := of_shape rfl
theorem incE : Statement .incE := of_shape rfl
theorem decE : Statement .decE := of_shape rfl
theorem ldEImm (d8 : Sys2Proof.Byte) : Statement (.ldEImm d8) := of_shape rfl
theorem rra : Statement .rra := of_shape rfl
theorem jrNz (off : Int) : Statement (.jrNz off) := of_shape rfl
theorem ldHlImm16 (d16 : Sys2Proof.Word) : Statement (.ldHlImm16 d16) := of_shape rfl
theorem ldIndHlIncA : Statement .ldIndHlIncA := of_shape rfl
theorem incHl : Statement .incHl := of_shape rfl
theorem incH : Statement .incH := of_shape rfl
theorem decH : Statement .decH := of_shape rfl
theorem ldHImm (d8 : Sys2Proof.Byte) : Statement (.ldHImm d8) := of_shape rfl
theorem daa : Statement .daa := of_shape rfl
theorem jrZ (off : Int) : Statement (.jrZ off) := of_shape rfl
theorem addHlHl : Statement .addHlHl := of_shape rfl
theorem ldAIndHlInc : Statement .ldAIndHlInc := of_shape rfl
theorem decHl : Statement .decHl := of_shape rfl
theorem incL : Statement .incL := of_shape rfl
theorem decL : Statement .decL := of_shape rfl
theorem ldLImm (d8 : Sys2Proof.Byte) : Statement (.ldLImm d8) := of_shape rfl
theorem cpl : Statement .cpl := of_shape rfl
theorem jrNc (off : Int) : Statement (.jrNc off) := of_shape rfl
theorem ldSpImm16 (d16 : Sys2Proof.Word) : Statement (.ldSpImm16 d16) := of_shape rfl
theorem ldIndHlDecA : Statement .ldIndHlDecA := of_shape rfl
theorem incSp : Statement .incSp := of_shape rfl
theorem incIndHl : Statement .incIndHl := of_shape rfl
theorem decIndHl : Statement .decIndHl := of_shape rfl
theorem ldIndHlImm (d8 : Sys2Proof.Byte) : Statement (.ldIndHlImm d8) := of_shape rfl
theorem scf : Statement .scf := of_shape rfl
theorem jrC (off : Int) : Statement (.jrC off) := of_shape rfl
theorem addHlSp : Statement .addHlSp := of_shape rfl
theorem ldAIndHlDec : Statement .ldAIndHlDec := of_shape rfl
theorem decSp : Statement .decSp := of_shape rfl
theorem incA : Statement .incA := of_shape rfl
theorem decA : Statement .decA := of_shape rfl
theorem ldAImm (d8 : Sys2Proof.Byte) : Statement (.ldAImm d8) := of_shape rfl
theorem ccf : Statement .ccf := of_shape rfl
theorem ldBB : Statement .ldBB := of_shape rfl
theorem ldBC : Statement .ldBC := of_shape rfl
theorem ldBD : Statement .ldBD := of_shape rfl
theorem ldBE : Statement .ldBE := of_shape rfl
theorem ldBH : Statement .ldBH := of_shape rfl
theorem ldBL : Statement .ldBL := of_shape rfl
theorem ldBIndHl : Statement .ldBIndHl := of_shape rfl
theorem ldBA : Statement .ldBA := of_shape rfl
theorem ldCB : Statement .ldCB := of_shape rfl
theorem ldCC : Statement .ldCC := of_shape rfl
theorem ldCD : Statement .ldCD := of_shape rfl
theorem ldCE : Statement .ldCE := of_shape rfl
theorem ldCH : Statement .ldCH := of_shape rfl
theorem ldCL : Statement .ldCL := of_shape rfl
theorem ldCIndHl : Statement .ldCIndHl := of_shape rfl
theorem ldCA : Statement .ldCA := of_shape rfl
theorem ldDB : Statement .ldDB := of_shape rfl
theorem ldDC : Statement .ldDC := of_shape rfl
theorem ldDD : Statement .ldDD := of_shape rfl
theorem ldDE : Statement .ldDE := of_shape rfl
theorem ldDH : Statement .ldDH := of_shape rfl
theorem ldDL : Statement .ldDL := of_shape rfl
theorem ldDIndHl : Statement .ldDIndHl := of_shape rfl
theorem ldDA : Statement .ldDA := of_shape rfl
theorem ldEB : Statement .ldEB := of_shape rfl
theorem ldEC : Statement .ldEC := of_shape rfl
theorem ldED : Statement .ldED := of_shape rfl
theorem ldEE : Statement .ldEE := of_shape rfl
theorem ldEH : Statement .ldEH := of_shape rfl
theorem ldEL : Statement .ldEL := of_shape rfl
theorem ldEIndHl : Statement .ldEIndHl := of_shape rfl
theorem ldEA : Statement .ldEA := of_shape rfl
theorem ldHB : Statement .ldHB := of_shape rfl
theorem ldHC : Statement .ldHC := of_shape rfl
theorem ldHD : Statement .ldHD := of_shape rfl
theorem ldHE : Statement .ldHE := of_shape rfl
theorem ldHH : Statement .ldHH := of_shape rfl
theorem ldHL : Statement .ldHL := of_shape rfl
theorem ldHIndHl : Statement .ldHIndHl := of_shape rfl
theorem ldHA : Statement .ldHA := of_shape rfl
theorem ldLB : Statement .ldLB := of_shape rfl
theorem ldLC : Statement .ldLC := of_shape rfl
theorem ldLD : Statement .ldLD := of_shape rfl
theorem ldLE : Statement .ldLE := of_shape rfl
theorem ldLH : Statement .ldLH := of_shape rfl
theorem ldLL : Statement .ldLL := of_shape rfl
theorem ldLIndHl : Statement .ldLIndHl := of_shape rfl
theorem ldLA : Statement .ldLA := of_shape rfl
theorem ldIndHlB : Statement .ldIndHlB := of_shape rfl
theorem ldIndHlC : Statement .ldIndHlC := of_shape rfl
theorem ldIndHlD : Statement .ldIndHlD := of_shape rfl
theorem ldIndHlE : Statement .ldIndHlE := of_shape rfl
theorem ldIndHlH : Statement .ldIndHlH := of_shape rfl
theorem ldIndHlL : Statement .ldIndHlL := of_shape rfl
theorem halt : Statement .halt := of_shape rfl
theorem ldIndHlA : Statement .ldIndHlA := of_shape rfl
theorem ldAB : Statement .ldAB := of_shape rfl
theorem ldAC : Statement .ldAC := of_shape rfl
theorem ldAD : Statement .ldAD := of_shape rfl
theorem ldAE : Statement .ldAE := of_shape rfl
theorem ldAH : Statement .ldAH := of_shape rfl
theorem ldAL : Statement .ldAL := of_shape rfl
theorem ldAIndHl : Statement .ldAIndHl := of_shape rfl
theorem ldAA : Statement .ldAA := of_shape rfl
theorem addAB : Statement .addAB := of_shape rfl
theorem addAC : Statement .addAC := of_shape rfl
theorem addAD : Statement .addAD := of_shape rfl
theorem addAE : Statement .addAE := of_shape rfl
theorem addAH : Statement .addAH := of_shape rfl
theorem addAL : Statement .addAL := of_shape rfl
theorem addAIndHl : Statement .addAIndHl := of_shape rfl
theorem addAA : Statement .addAA := of_shape rfl
theorem adcAB : Statement .adcAB := of_shape rfl
theorem adcAC : Statement .adcAC := of_shape rfl
theorem adcAD : Statement .adcAD := of_shape rfl
theorem adcAE : Statement .adcAE := of_shape rfl
theorem adcAH : Statement .adcAH := of_shape rfl
theorem adcAL : Statement .adcAL := of_shape rfl
theorem adcAIndHl : Statement .adcAIndHl := of_shape rfl
theorem adcAA : Statement .adcAA := of_shape rfl
theorem subAB : Statement .subAB := of_shape rfl
theorem subAC : Statement .subAC := of_shape rfl
theorem subAD : Statement .subAD := of_shape rfl
theorem subAE : Statement .subAE := of_shape rfl
theorem subAH : Statement .subAH := of_shape rfl
theorem subAL : Statement .subAL := of_shape rfl
theorem subAIndHl : Statement .subAIndHl := of_shape rfl
theorem subAA : Statement .subAA := of_shape rfl
theorem sbcAB : Statement .sbcAB := of_shape rfl
theorem sbcAC : Statement .sbcAC := of_shape rfl
theorem sbcAD : Statement .sbcAD := of_shape rfl
theorem sbcAE : Statement .sbcAE := of_shape rfl
theorem sbcAH : Statement .sbcAH := of_shape rfl
theorem sbcAL : Statement .sbcAL := of_shape rfl
theorem sbcAIndHl : Statement .sbcAIndHl := of_shape rfl
theorem sbcAA : Statement .sbcAA := of_shape rfl
theorem andAB : Statement .andAB := of_shape rfl
theorem andAC : Statement .andAC := of_shape rfl
theorem andAD : Statement .andAD := of_shape rfl
theorem andAE : Statement .andAE := of_shape rfl
theorem andAH : Statement .andAH := of_shape rfl
theorem andAL : Statement .andAL := of_shape rfl
theorem andAIndHl : Statement .andAIndHl := of_shape rfl
theorem andAA : Statement .andAA := of_shape rfl
theorem xorAB : Statement .xorAB := of_shape rfl
theorem xorAC : Statement .xorAC := of_shape rfl
theorem xorAD : Statement .xorAD := of_shape rfl
theorem xorAE : Statement .xorAE := of_shape rfl
theorem xorAH : Statement .xorAH := of_shape rfl
theorem xorAL : Statement .xorAL := of_shape rfl
theorem xorAIndHl : Statement .xorAIndHl := of_shape rfl
theorem xorAA : Statement .xorAA := of_shape rfl
theorem orAB : Statement .orAB := of_shape rfl
theorem orAC : Statement .orAC := of_shape rfl
theorem orAD : Statement .orAD := of_shape rfl
theorem orAE : Statement .orAE := of_shape rfl
theorem orAH : Statement .orAH := of_shape rfl
theorem orAL : Statement .orAL := of_shape rfl
theorem orAIndHl : Statement .orAIndHl := of_shape rfl
theorem orAA : Statement .orAA := of_shape rfl
theorem cpAB : Statement .cpAB := of_shape rfl
theorem cpAC : Statement .cpAC := of_shape rfl
theorem cpAD : Statement .cpAD := of_shape rfl
theorem cpAE : Statement .cpAE := of_shape rfl
theorem cpAH : Statement .cpAH := of_shape rfl
theorem cpAL : Statement .cpAL := of_shape rfl
theorem cpAIndHl : Statement .cpAIndHl := of_shape rfl
theorem cpAA : Statement .cpAA := of_shape rfl
theorem addAImm (d8 : Sys2Proof.Byte) : Statement (.addAImm d8) := of_shape rfl
theorem adcAImm (d8 : Sys2Proof.Byte) : Statement (.adcAImm d8) := of_shape rfl
theorem subAImm (d8 : Sys2Proof.Byte) : Statement (.subAImm d8) := of_shape rfl
theorem sbcAImm (d8 : Sys2Proof.Byte) : Statement (.sbcAImm d8) := of_shape rfl
theorem andAImm (d8 : Sys2Proof.Byte) : Statement (.andAImm d8) := of_shape rfl
theorem xorAImm (d8 : Sys2Proof.Byte) : Statement (.xorAImm d8) := of_shape rfl
theorem orAImm (d8 : Sys2Proof.Byte) : Statement (.orAImm d8) := of_shape rfl
theorem cpAImm (d8 : Sys2Proof.Byte) : Statement (.cpAImm d8) := of_shape rfl

end Sys2Proof.Laws.Form
end

