-- ==== Sys2Proof/Laws/Syntax.lean ====
section
/-! SUPPORT. Instructions and forms name each other, so that a claim over all instructions is a case split over the 30 forms. -/

namespace Sys2Proof

theorem Instr.instr_shape (i : Instr) : i.shape.instr = i := by
  cases i <;> rfl

theorem Shape.shape_instr (sh : Shape) : sh.instr.shape = sh := by
  cases sh with
  | ldRegReg dst src => cases dst <;> cases src <;> rfl
  | ldRegInd dst => cases dst <;> rfl
  | ldIndReg src => cases src <;> rfl
  | ldRegImm dst d8 => cases dst <;> rfl
  | storeA m => cases m <;> rfl
  | loadA m => cases m <;> rfl
  | ldPairImm rr d16 => cases rr <;> rfl
  | aluReg op src => cases op <;> cases src <;> rfl
  | aluInd op => cases op <;> rfl
  | aluImm op d8 => cases op <;> rfl
  | addHl rr => cases rr <;> rfl
  | incReg r => cases r <;> rfl
  | decReg r => cases r <;> rfl
  | incPair rr => cases rr <;> rfl
  | decPair rr => cases rr <;> rfl
  | jrIf cc off => cases cc <;> rfl
  | ldIndImm _ | incInd | decInd | rlca | rrca | rla | rra | jr _ | daa | cpl | scf | ccf | halt | stop => rfl

/-- A property of all forms' instructions is a property of all instructions. -/
theorem Instr.forall_of_shape {p : Instr → Prop} (h : ∀ sh : Shape, p sh.instr) (i : Instr) : p i := by
  have := h i.shape
  rwa [i.instr_shape] at this

theorem Instr.length_bounds (i : Instr) : 1 ≤ i.length ∧ i.length ≤ 3 :=
  (Laws.Form.of_shape i.instr_shape).2.2

end Sys2Proof
end

