-- ==== Sys2Proof/Laws/Decode.lean ====
section
/-! SUPPORT. The operand bytes by themselves, and the table slot of every form. -/

namespace Sys2Proof

theorem signed8_eq_toInt (b : Byte) : signed8 b = b.toInt := by
  simp only [signed8, BitVec.toInt]
  split <;> split <;> omega

theorem offsetInRange_signed8 (b : Byte) : offsetInRange (signed8 b) = true := by
  revert b; decide

theorem ofInt_signed8 (b : Byte) : BitVec.ofInt 8 (signed8 b) = b := by
  rw [signed8_eq_toInt]; simp

theorem signed8_ofInt {off : Int} (h : offsetInRange off = true) : signed8 (BitVec.ofInt 8 off) = off := by
  simp only [offsetInRange, Bool.and_eq_true, decide_eq_true_eq] at h
  rw [signed8_eq_toInt, BitVec.toInt_ofInt, Int.bmod_eq_of_le] <;> omega

theorem immWord_halves (w : Word) : immWord (w.extractLsb' 0 8) (w.extractLsb' 8 8) = w := by
  apply BitVec.eq_of_toNat_eq
  simp only [immWord, BitVec.toNat_append, BitVec.extractLsb'_toNat, Nat.shiftRight_zero]
  rw [← Nat.shiftLeft_add_eq_or_of_lt (by omega)]
  simp only [Nat.shiftLeft_eq, Nat.shiftRight_eq_div_pow]
  omega

theorem immWord_low (lo hi : Byte) : (immWord lo hi).extractLsb' 0 8 = lo := by
  apply BitVec.eq_of_toNat_eq
  simp only [immWord, BitVec.toNat_append, BitVec.extractLsb'_toNat, Nat.shiftRight_zero]
  rw [← Nat.shiftLeft_add_eq_or_of_lt lo.isLt, Nat.shiftLeft_eq]
  omega

theorem immWord_high (lo hi : Byte) : (immWord lo hi).extractLsb' 8 8 = hi := by
  apply BitVec.eq_of_toNat_eq
  simp only [immWord, BitVec.toNat_append, BitVec.extractLsb'_toNat, Nat.shiftRight_eq_div_pow]
  rw [← Nat.shiftLeft_add_eq_or_of_lt lo.isLt, Nat.shiftLeft_eq]
  omega

/-- The slot of the opcode table for a form. -/
def Shape.slot (sh : Shape) : Slot :=
  match sh with
  | .ldRegImm dst _ => .d8 (Instr.ofLdRegImm dst)
  | .ldIndImm _ => .d8 .ldIndHlImm
  | .aluImm op _ => .d8 (Instr.ofAluImm op)
  | .ldPairImm rr _ => .d16 (Instr.ofLdPairImm rr)
  | .jr _ => .r8 .jr
  | .jrIf cc _ => .r8 (Instr.ofJrIf cc)
  | .ldRegReg _ _ | .ldRegInd _ | .ldIndReg _ | .storeA _ | .loadA _ | .aluReg _ _ | .aluInd _
  | .addHl _ | .incReg _ | .incInd | .decReg _ | .decInd | .incPair _ | .decPair _
  | .rlca | .rrca | .rla | .rra | .daa | .cpl | .scf | .ccf | .halt | .stop => .op sh.instr

theorem opcodeTable_of {b : Byte} {slot : Slot} {n : Nat} (hn : b.toNat = n)
    (h : (opcodeRow (n / 16))[n % 16]? = some (some slot)) : opcodeTable b = some slot := by
  subst hn
  simp only [opcodeTable, h]

/-- The table holds, at the opcode byte that the field patterns give a form, that form's slot. -/
theorem opcodeTable_opcode (sh : Shape) : opcodeTable sh.opcode = some sh.slot := by
  cases sh with
  | ldRegReg dst src => cases dst <;> cases src <;> exact opcodeTable_of rfl rfl
  | ldRegInd dst => cases dst <;> exact opcodeTable_of rfl rfl
  | ldIndReg src => cases src <;> exact opcodeTable_of rfl rfl
  | ldRegImm dst d8 =>
    show opcodeTable (Shape.ldRegImm dst 0#8).opcode = some (Shape.ldRegImm dst 0#8).slot
    cases dst <;> exact opcodeTable_of rfl rfl
  | storeA m => cases m <;> exact opcodeTable_of rfl rfl
  | loadA m => cases m <;> exact opcodeTable_of rfl rfl
  | ldPairImm rr d16 =>
    show opcodeTable (Shape.ldPairImm rr 0#16).opcode = some (Shape.ldPairImm rr 0#16).slot
    cases rr <;> exact opcodeTable_of rfl rfl
  | aluReg op src => cases op <;> cases src <;> exact opcodeTable_of rfl rfl
  | aluInd op => cases op <;> exact opcodeTable_of rfl rfl
  | aluImm op d8 =>
    show opcodeTable (Shape.aluImm op 0#8).opcode = some (Shape.aluImm op 0#8).slot
    cases op <;> exact opcodeTable_of rfl rfl
  | addHl rr => cases rr <;> exact opcodeTable_of rfl rfl
  | incReg r => cases r <;> exact opcodeTable_of rfl rfl
  | decReg r => cases r <;> exact opcodeTable_of rfl rfl
  | incPair rr => cases rr <;> exact opcodeTable_of rfl rfl
  | decPair rr => cases rr <;> exact opcodeTable_of rfl rfl
  | jrIf cc off =>
    show opcodeTable (Shape.jrIf cc 0).opcode = some (Shape.jrIf cc 0).slot
    cases cc <;> exact opcodeTable_of rfl rfl
  | ldIndImm d8 => exact (opcodeTable_of rfl rfl : opcodeTable 0x36#8 = _)
  | jr off => exact (opcodeTable_of rfl rfl : opcodeTable 0x18#8 = _)
  | incInd | decInd | rlca | rrca | rla | rra | daa | cpl | scf | ccf | halt | stop =>
    exact opcodeTable_of rfl rfl

/-- A slot of the table is a form's slot, at the form's opcode byte. -/
theorem opcodeTable_cases (b : Byte) :
    opcodeTable b = none ∨ ∃ sh : Shape, b = sh.opcode ∧ opcodeTable b = some sh.slot := by
  have dec : ∀ b : Byte, (opcodeTable b).isSome = true →
      (∃ r ∈ [Reg8.b, .c, .d, .e, .h, .l, .a],
        (∃ r' ∈ [Reg8.b, .c, .d, .e, .h, .l, .a], b = (Shape.ldRegReg r r').opcode) ∨
        b = (Shape.ldRegInd r).opcode ∨ b = (Shape.ldIndReg r).opcode ∨ b = (Shape.ldRegImm r 0#8).opcode ∨
        b = (Shape.incReg r).opcode ∨ b = (Shape.decReg r).opcode) ∨
      (∃ o ∈ [AluOp.add, .adc, .sub, .sbc, .and, .xor, .or, .cp],
        (∃ r ∈ [Reg8.b, .c, .d, .e, .h, .l, .a], b = (Shape.aluReg o r).opcode) ∨
        b = (Shape.aluInd o).opcode ∨ b = (Shape.aluImm o 0#8).opcode) ∨
      (∃ m ∈ [IndMode.bc, .de, .hlInc, .hlDec], b = (Shape.storeA m).opcode ∨ b = (Shape.loadA m).opcode) ∨
      (∃ rr ∈ [Reg16.bc, .de, .hl, .sp], b = (Shape.ldPairImm rr 0#16).opcode ∨ b = (Shape.addHl rr).opcode ∨
        b = (Shape.incPair rr).opcode ∨ b = (Shape.decPair rr).opcode) ∨
      (∃ cc ∈ [Cond.nz, .z, .nc, .c], b = (Shape.jrIf cc 0).opcode) ∨
      (∃ sh ∈ [Shape.ldIndImm 0#8, .incInd, .decInd, .rlca, .rrca, .rla, .rra, .jr 0, .daa, .cpl, .scf, .ccf,
        .halt, .stop], b = sh.opcode) := by
    decide
  cases hb : opcodeTable b with
  | none => exact .inl rfl
  | some slot =>
    have key : ∃ sh : Shape, b = sh.opcode := by
      rcases dec b (by simp [hb]) with ⟨r, -, ⟨r', -, h⟩ | h | h | h | h | h⟩ | ⟨o, -, ⟨r, -, h⟩ | h | h⟩ |
        ⟨m, -, h | h⟩ | ⟨rr, -, h | h | h | h⟩ | ⟨cc, -, h⟩ | ⟨sh, -, h⟩
      all_goals exact ⟨_, h⟩
    obtain ⟨sh, hsh⟩ := key
    exact .inr ⟨sh, hsh, by rw [← hb, hsh, opcodeTable_opcode]⟩

/-- What a form's slot reads: a well-formed instruction with the form's opcode, whose operand bytes are the bytes read. -/
theorem Shape.slot_read {sh : Shape} {bytes rest : List Byte} {i : Instr}
    (h : sh.slot.read bytes = .ok (i, rest)) :
    WellFormed i ∧ i.shape.opcode = sh.opcode ∧ i.shape.operandBytes ++ rest = bytes ∧
      i.shape.operandBytes.length = sh.operandBytes.length := by
  have of_form : ∀ (i : Instr) (sh' : Shape), i = sh'.instr → sh'.wellFormed = true → sh'.opcode = sh.opcode →
      sh'.operandBytes ++ rest = bytes → sh'.operandBytes.length = sh.operandBytes.length →
      WellFormed i ∧ i.shape.opcode = sh.opcode ∧ i.shape.operandBytes ++ rest = bytes ∧
        i.shape.operandBytes.length = sh.operandBytes.length := by
    rintro _ sh' rfl h1 h2 h3 h4
    simp only [WellFormed, Instr.wellFormed, Shape.shape_instr]
    exact ⟨h1, h2, h3, h4⟩
  cases sh <;> simp only [Shape.slot] at h
  case ldRegImm dst x =>
    cases bytes <;> simp [Slot.read] at h
    obtain ⟨rfl, rfl⟩ := h
    exact of_form _ (.ldRegImm dst _) rfl rfl rfl rfl rfl
  case ldIndImm x =>
    cases bytes <;> simp [Slot.read] at h
    obtain ⟨rfl, rfl⟩ := h
    exact of_form _ (.ldIndImm _) rfl rfl rfl rfl rfl
  case aluImm op x =>
    cases bytes <;> simp [Slot.read] at h
    obtain ⟨rfl, rfl⟩ := h
    exact of_form _ (.aluImm op _) rfl rfl rfl rfl rfl
  case ldPairImm rr x =>
    rcases bytes with _ | ⟨lo, _ | ⟨hi, more⟩⟩ <;> simp [Slot.read] at h
    obtain ⟨rfl, rfl⟩ := h
    exact of_form _ (.ldPairImm rr _) rfl rfl rfl
      (by simp only [Shape.operandBytes, immWord_low, immWord_high]; rfl) rfl
  case jr x =>
    cases bytes <;> simp [Slot.read] at h
    obtain ⟨rfl, rfl⟩ := h
    exact of_form _ (.jr _) rfl (offsetInRange_signed8 _) rfl (by simp [Shape.operandBytes, ofInt_signed8]) rfl
  case jrIf cc x =>
    cases bytes <;> simp [Slot.read] at h
    obtain ⟨rfl, rfl⟩ := h
    exact of_form _ (.jrIf cc _) rfl (offsetInRange_signed8 _) rfl (by simp [Shape.operandBytes, ofInt_signed8]) rfl
  all_goals
    simp [Slot.read] at h
    obtain ⟨rfl, rfl⟩ := h
    exact of_form _ _ rfl rfl rfl rfl rfl

end Sys2Proof
end

