-- ==== Sys2Proof/Laws/State.lean ====
section
/-! SUPPORT. One lemma per field per update of State, so that no later proof unfolds a record update. -/

namespace Sys2Proof.Machine

/-! ### `State.setF` -/

@[simp] theorem State.setF_a (s : State) (v : Byte) : (s.setF v).a = s.a := rfl
@[simp] theorem State.setF_b (s : State) (v : Byte) : (s.setF v).b = s.b := rfl
@[simp] theorem State.setF_c (s : State) (v : Byte) : (s.setF v).c = s.c := rfl
@[simp] theorem State.setF_d (s : State) (v : Byte) : (s.setF v).d = s.d := rfl
@[simp] theorem State.setF_e (s : State) (v : Byte) : (s.setF v).e = s.e := rfl
@[simp] theorem State.setF_h (s : State) (v : Byte) : (s.setF v).h = s.h := rfl
@[simp] theorem State.setF_l (s : State) (v : Byte) : (s.setF v).l = s.l := rfl
@[simp] theorem State.setF_f (s : State) (v : Byte) : (s.setF v).f = v &&& 0xF0#8 := rfl
@[simp] theorem State.setF_pc (s : State) (v : Byte) : (s.setF v).pc = s.pc := rfl
@[simp] theorem State.setF_sp (s : State) (v : Byte) : (s.setF v).sp = s.sp := rfl
@[simp] theorem State.setF_clk (s : State) (v : Byte) : (s.setF v).clk = s.clk := rfl
@[simp] theorem State.setF_halted (s : State) (v : Byte) : (s.setF v).halted = s.halted := rfl
@[simp] theorem State.setF_stopped (s : State) (v : Byte) : (s.setF v).stopped = s.stopped := rfl
@[simp] theorem State.setF_ime (s : State) (v : Byte) : (s.setF v).ime = s.ime := rfl
@[simp] theorem State.setF_mem (s : State) (v : Byte) : (s.setF v).mem = s.mem := rfl

/-! ### `State.setPc` -/

@[simp] theorem State.setPc_a (s : State) (v : Word) : (s.setPc v).a = s.a := rfl
@[simp] theorem State.setPc_b (s : State) (v : Word) : (s.setPc v).b = s.b := rfl
@[simp] theorem State.setPc_c (s : State) (v : Word) : (s.setPc v).c = s.c := rfl
@[simp] theorem State.setPc_d (s : State) (v : Word) : (s.setPc v).d = s.d := rfl
@[simp] theorem State.setPc_e (s : State) (v : Word) : (s.setPc v).e = s.e := rfl
@[simp] theorem State.setPc_h (s : State) (v : Word) : (s.setPc v).h = s.h := rfl
@[simp] theorem State.setPc_l (s : State) (v : Word) : (s.setPc v).l = s.l := rfl
@[simp] theorem State.setPc_f (s : State) (v : Word) : (s.setPc v).f = s.f := rfl
@[simp] theorem State.setPc_pc (s : State) (v : Word) : (s.setPc v).pc = v := rfl
@[simp] theorem State.setPc_sp (s : State) (v : Word) : (s.setPc v).sp = s.sp := rfl
@[simp] theorem State.setPc_clk (s : State) (v : Word) : (s.setPc v).clk = s.clk := rfl
@[simp] theorem State.setPc_halted (s : State) (v : Word) : (s.setPc v).halted = s.halted := rfl
@[simp] theorem State.setPc_stopped (s : State) (v : Word) : (s.setPc v).stopped = s.stopped := rfl
@[simp] theorem State.setPc_ime (s : State) (v : Word) : (s.setPc v).ime = s.ime := rfl
@[simp] theorem State.setPc_mem (s : State) (v : Word) : (s.setPc v).mem = s.mem := rfl

/-! ### `State.setSp` -/

@[simp] theorem State.setSp_a (s : State) (v : Word) : (s.setSp v).a = s.a := rfl
@[simp] theorem State.setSp_b (s : State) (v : Word) : (s.setSp v).b = s.b := rfl
@[simp] theorem State.setSp_c (s : State) (v : Word) : (s.setSp v).c = s.c := rfl
@[simp] theorem State.setSp_d (s : State) (v : Word) : (s.setSp v).d = s.d := rfl
@[simp] theorem State.setSp_e (s : State) (v : Word) : (s.setSp v).e = s.e := rfl
@[simp] theorem State.setSp_h (s : State) (v : Word) : (s.setSp v).h = s.h := rfl
@[simp] theorem State.setSp_l (s : State) (v : Word) : (s.setSp v).l = s.l := rfl
@[simp] theorem State.setSp_f (s : State) (v : Word) : (s.setSp v).f = s.f := rfl
@[simp] theorem State.setSp_pc (s : State) (v : Word) : (s.setSp v).pc = s.pc := rfl
@[simp] theorem State.setSp_sp (s : State) (v : Word) : (s.setSp v).sp = v := rfl
@[simp] theorem State.setSp_clk (s : State) (v : Word) : (s.setSp v).clk = s.clk := rfl
@[simp] theorem State.setSp_halted (s : State) (v : Word) : (s.setSp v).halted = s.halted := rfl
@[simp] theorem State.setSp_stopped (s : State) (v : Word) : (s.setSp v).stopped = s.stopped := rfl
@[simp] theorem State.setSp_ime (s : State) (v : Word) : (s.setSp v).ime = s.ime := rfl
@[simp] theorem State.setSp_mem (s : State) (v : Word) : (s.setSp v).mem = s.mem := rfl

/-! ### `State.setBc` -/

@[simp] theorem State.setBc_a (s : State) (v : Word) : (s.setBc v).a = s.a := rfl
@[simp] theorem State.setBc_b (s : State) (v : Word) : (s.setBc v).b = hiByte v := rfl
@[simp] theorem State.setBc_c (s : State) (v : Word) : (s.setBc v).c = loByte v := rfl
@[simp] theorem State.setBc_d (s : State) (v : Word) : (s.setBc v).d = s.d := rfl
@[simp] theorem State.setBc_e (s : State) (v : Word) : (s.setBc v).e = s.e := rfl
@[simp] theorem State.setBc_h (s : State) (v : Word) : (s.setBc v).h = s.h := rfl
@[simp] theorem State.setBc_l (s : State) (v : Word) : (s.setBc v).l = s.l := rfl
@[simp] theorem State.setBc_f (s : State) (v : Word) : (s.setBc v).f = s.f := rfl
@[simp] theorem State.setBc_pc (s : State) (v : Word) : (s.setBc v).pc = s.pc := rfl
@[simp] theorem State.setBc_sp (s : State) (v : Word) : (s.setBc v).sp = s.sp := rfl
@[simp] theorem State.setBc_clk (s : State) (v : Word) : (s.setBc v).clk = s.clk := rfl
@[simp] theorem State.setBc_halted (s : State) (v : Word) : (s.setBc v).halted = s.halted := rfl
@[simp] theorem State.setBc_stopped (s : State) (v : Word) : (s.setBc v).stopped = s.stopped := rfl
@[simp] theorem State.setBc_ime (s : State) (v : Word) : (s.setBc v).ime = s.ime := rfl
@[simp] theorem State.setBc_mem (s : State) (v : Word) : (s.setBc v).mem = s.mem := rfl

/-! ### `State.setDe` -/

@[simp] theorem State.setDe_a (s : State) (v : Word) : (s.setDe v).a = s.a := rfl
@[simp] theorem State.setDe_b (s : State) (v : Word) : (s.setDe v).b = s.b := rfl
@[simp] theorem State.setDe_c (s : State) (v : Word) : (s.setDe v).c = s.c := rfl
@[simp] theorem State.setDe_d (s : State) (v : Word) : (s.setDe v).d = hiByte v := rfl
@[simp] theorem State.setDe_e (s : State) (v : Word) : (s.setDe v).e = loByte v := rfl
@[simp] theorem State.setDe_h (s : State) (v : Word) : (s.setDe v).h = s.h := rfl
@[simp] theorem State.setDe_l (s : State) (v : Word) : (s.setDe v).l = s.l := rfl
@[simp] theorem State.setDe_f (s : State) (v : Word) : (s.setDe v).f = s.f := rfl
@[simp] theorem State.setDe_pc (s : State) (v : Word) : (s.setDe v).pc = s.pc := rfl
@[simp] theorem State.setDe_sp (s : State) (v : Word) : (s.setDe v).sp = s.sp := rfl
@[simp] theorem State.setDe_clk (s : State) (v : Word) : (s.setDe v).clk = s.clk := rfl
@[simp] theorem State.setDe_halted (s : State) (v : Word) : (s.setDe v).halted = s.halted := rfl
@[simp] theorem State.setDe_stopped (s : State) (v : Word) : (s.setDe v).stopped = s.stopped := rfl
@[simp] theorem State.setDe_ime (s : State) (v : Word) : (s.setDe v).ime = s.ime := rfl
@[simp] theorem State.setDe_mem (s : State) (v : Word) : (s.setDe v).mem = s.mem := rfl

/-! ### `State.setHl` -/

@[simp] theorem State.setHl_a (s : State) (v : Word) : (s.setHl v).a = s.a := rfl
@[simp] theorem State.setHl_b (s : State) (v : Word) : (s.setHl v).b = s.b := rfl
@[simp] theorem State.setHl_c (s : State) (v : Word) : (s.setHl v).c = s.c := rfl
@[simp] theorem State.setHl_d (s : State) (v : Word) : (s.setHl v).d = s.d := rfl
@[simp] theorem State.setHl_e (s : State) (v : Word) : (s.setHl v).e = s.e := rfl
@[simp] theorem State.setHl_h (s : State) (v : Word) : (s.setHl v).h = hiByte v := rfl
@[simp] theorem State.setHl_l (s : State) (v : Word) : (s.setHl v).l = loByte v := rfl
@[simp] theorem State.setHl_f (s : State) (v : Word) : (s.setHl v).f = s.f := rfl
@[simp] theorem State.setHl_pc (s : State) (v : Word) : (s.setHl v).pc = s.pc := rfl
@[simp] theorem State.setHl_sp (s : State) (v : Word) : (s.setHl v).sp = s.sp := rfl
@[simp] theorem State.setHl_clk (s : State) (v : Word) : (s.setHl v).clk = s.clk := rfl
@[simp] theorem State.setHl_halted (s : State) (v : Word) : (s.setHl v).halted = s.halted := rfl
@[simp] theorem State.setHl_stopped (s : State) (v : Word) : (s.setHl v).stopped = s.stopped := rfl
@[simp] theorem State.setHl_ime (s : State) (v : Word) : (s.setHl v).ime = s.ime := rfl
@[simp] theorem State.setHl_mem (s : State) (v : Word) : (s.setHl v).mem = s.mem := rfl

/-! ### `State.setAf` -/

@[simp] theorem State.setAf_a (s : State) (v : Word) : (s.setAf v).a = hiByte v := rfl
@[simp] theorem State.setAf_b (s : State) (v : Word) : (s.setAf v).b = s.b := rfl
@[simp] theorem State.setAf_c (s : State) (v : Word) : (s.setAf v).c = s.c := rfl
@[simp] theorem State.setAf_d (s : State) (v : Word) : (s.setAf v).d = s.d := rfl
@[simp] theorem State.setAf_e (s : State) (v : Word) : (s.setAf v).e = s.e := rfl
@[simp] theorem State.setAf_h (s : State) (v : Word) : (s.setAf v).h = s.h := rfl
@[simp] theorem State.setAf_l (s : State) (v : Word) : (s.setAf v).l = s.l := rfl
@[simp] theorem State.setAf_f (s : State) (v : Word) : (s.setAf v).f = loByte v &&& 0xF0#8 := rfl
@[simp] theorem State.setAf_pc (s : State) (v : Word) : (s.setAf v).pc = s.pc := rfl
@[simp] theorem State.setAf_sp (s : State) (v : Word) : (s.setAf v).sp = s.sp := rfl
@[simp] theorem State.setAf_clk (s : State) (v : Word) : (s.setAf v).clk = s.clk := rfl
@[simp] theorem State.setAf_halted (s : State) (v : Word) : (s.setAf v).halted = s.halted := rfl
@[simp] theorem State.setAf_stopped (s : State) (v : Word) : (s.setAf v).stopped = s.stopped := rfl
@[simp] theorem State.setAf_ime (s : State) (v : Word) : (s.setAf v).ime = s.ime := rfl
@[simp] theorem State.setAf_mem (s : State) (v : Word) : (s.setAf v).mem = s.mem := rfl

/-! ### `State.setClock` -/

@[simp] theorem State.setClock_a (s : State) (cost : Nat) : (s.setClock cost).a = s.a := rfl
@[simp] theorem State.setClock_b (s : State) (cost : Nat) : (s.setClock cost).b = s.b := rfl
@[simp] theorem State.setClock_c (s : State) (cost : Nat) : (s.setClock cost).c = s.c := rfl
@[simp] theorem State.setClock_d (s : State) (cost : Nat) : (s.setClock cost).d = s.d := rfl
@[simp] theorem State.setClock_e (s : State) (cost : Nat) : (s.setClock cost).e = s.e := rfl
@[simp] theorem State.setClock_h (s : State) (cost : Nat) : (s.setClock cost).h = s.h := rfl
@[simp] theorem State.setClock_l (s : State) (cost : Nat) : (s.setClock cost).l = s.l := rfl
@[simp] theorem State.setClock_f (s : State) (cost : Nat) : (s.setClock cost).f = s.f := rfl
@[simp] theorem State.setClock_pc (s : State) (cost : Nat) : (s.setClock cost).pc = s.pc := rfl
@[simp] theorem State.setClock_sp (s : State) (cost : Nat) : (s.setClock cost).sp = s.sp := rfl
@[simp] theorem State.setClock_clk (s : State) (cost : Nat) : (s.setClock cost).clk = { m := cost / 4, t := cost } := rfl
@[simp] theorem State.setClock_halted (s : State) (cost : Nat) : (s.setClock cost).halted = s.halted := rfl
@[simp] theorem State.setClock_stopped (s : State) (cost : Nat) : (s.setClock cost).stopped = s.stopped := rfl
@[simp] theorem State.setClock_ime (s : State) (cost : Nat) : (s.setClock cost).ime = s.ime := rfl
@[simp] theorem State.setClock_mem (s : State) (cost : Nat) : (s.setClock cost).mem = s.mem := rfl

/-! ### `State.writeByte` -/

@[simp] theorem State.writeByte_a (s : State) (addr : Word) (v : Byte) : (s.writeByte addr v).a = s.a := rfl
@[simp] theorem State.writeByte_b (s : State) (addr : Word) (v : Byte) : (s.writeByte addr v).b = s.b := rfl
@[simp] theorem State.writeByte_c (s : State) (addr : Word) (v : Byte) : (s.writeByte addr v).c = s.c := rfl
@[simp] theorem State.writeByte_d (s : State) (addr : Word) (v : Byte) : (s.writeByte addr v).d = s.d := rfl
@[simp] theorem State.writeByte_e (s : State) (addr : Word) (v : Byte) : (s.writeByte addr v).e = s.e := rfl
@[simp] theorem State.writeByte_h (s : State) (addr : Word) (v : Byte) : (s.writeByte addr v).h = s.h := rfl
@[simp] theorem State.writeByte_l (s : State) (addr : Word) (v : Byte) : (s.writeByte addr v).l = s.l := rfl
@[simp] theorem State.writeByte_f (s : State) (addr : Word) (v : Byte) : (s.writeByte addr v).f = s.f := rfl
@[simp] theorem State.writeByte_pc (s : State) (addr : Word) (v : Byte) : (s.writeByte addr v).pc = s.pc := rfl
@[simp] theorem State.writeByte_sp (s : State) (addr : Word) (v : Byte) : (s.writeByte addr v).sp = s.sp := rfl
@[simp] theorem State.writeByte_clk (s : State) (addr : Word) (v : Byte) : (s.writeByte addr v).clk = s.clk := rfl
@[simp] theorem State.writeByte_halted (s : State) (addr : Word) (v : Byte) : (s.writeByte addr v).halted = s.halted := rfl
@[simp] theorem State.writeByte_stopped (s : State) (addr : Word) (v : Byte) : (s.writeByte addr v).stopped = s.stopped := rfl
@[simp] theorem State.writeByte_ime (s : State) (addr : Word) (v : Byte) : (s.writeByte addr v).ime = s.ime := rfl
@[simp] theorem State.writeByte_mem (s : State) (addr : Word) (v : Byte) : (s.writeByte addr v).mem = Mem.write s.mem addr.toNat v := rfl

/-! ### `State.writeInd` -/

@[simp] theorem State.writeInd_a (s : State) (v : Byte) : (s.writeInd v).a = s.a := rfl
@[simp] theorem State.writeInd_b (s : State) (v : Byte) : (s.writeInd v).b = s.b := rfl
@[simp] theorem State.writeInd_c (s : State) (v : Byte) : (s.writeInd v).c = s.c := rfl
@[simp] theorem State.writeInd_d (s : State) (v : Byte) : (s.writeInd v).d = s.d := rfl
@[simp] theorem State.writeInd_e (s : State) (v : Byte) : (s.writeInd v).e = s.e := rfl
@[simp] theorem State.writeInd_h (s : State) (v : Byte) : (s.writeInd v).h = s.h := rfl
@[simp] theorem State.writeInd_l (s : State) (v : Byte) : (s.writeInd v).l = s.l := rfl
@[simp] theorem State.writeInd_f (s : State) (v : Byte) : (s.writeInd v).f = s.f := rfl
@[simp] theorem State.writeInd_pc (s : State) (v : Byte) : (s.writeInd v).pc = s.pc := rfl
@[simp] theorem State.writeInd_sp (s : State) (v : Byte) : (s.writeInd v).sp = s.sp := rfl
@[simp] theorem State.writeInd_clk (s : State) (v : Byte) : (s.writeInd v).clk = s.clk := rfl
@[simp] theorem State.writeInd_halted (s : State) (v : Byte) : (s.writeInd v).halted = s.halted := rfl
@[simp] theorem State.writeInd_stopped (s : State) (v : Byte) : (s.writeInd v).stopped = s.stopped := rfl
@[simp] theorem State.writeInd_ime (s : State) (v : Byte) : (s.writeInd v).ime = s.ime := rfl
@[simp] theorem State.writeInd_mem (s : State) (v : Byte) : (s.writeInd v).mem = Mem.write s.mem s.hl.toNat v := rfl

/-! ### `enterHalt` -/

@[simp] theorem enterHalt_a (s : State) : (enterHalt s).a = s.a := rfl
@[simp] theorem enterHalt_b (s : State) : (enterHalt s).b = s.b := rfl
@[simp] theorem enterHalt_c (s : State) : (enterHalt s).c = s.c := rfl
@[simp] theorem enterHalt_d (s : State) : (enterHalt s).d = s.d := rfl
@[simp] theorem enterHalt_e (s : State) : (enterHalt s).e = s.e := rfl
@[simp] theorem enterHalt_h (s : State) : (enterHalt s).h = s.h := rfl
@[simp] theorem enterHalt_l (s : State) : (enterHalt s).l = s.l := rfl
@[simp] theorem enterHalt_f (s : State) : (enterHalt s).f = s.f := rfl
@[simp] theorem enterHalt_pc (s : State) : (enterHalt s).pc = s.pc := rfl
@[simp] theorem enterHalt_sp (s : State) : (enterHalt s).sp = s.sp := rfl
@[simp] theorem enterHalt_clk (s : State) : (enterHalt s).clk = s.clk := rfl
@[simp] theorem enterHalt_halted (s : State) : (enterHalt s).halted = true := rfl
@[simp] theorem enterHalt_stopped (s : State) : (enterHalt s).stopped = s.stopped := rfl
@[simp] theorem enterHalt_ime (s : State) : (enterHalt s).ime = s.ime := rfl
@[simp] theorem enterHalt_mem (s : State) : (enterHalt s).mem = s.mem := rfl

/-! ### `enterStop` -/

@[simp] theorem enterStop_a (s : State) : (enterStop s).a = s.a := rfl
@[simp] theorem enterStop_b (s : State) : (enterStop s).b = s.b := rfl
@[simp] theorem enterStop_c (s : State) : (enterStop s).c = s.c := rfl
@[simp] theorem enterStop_d (s : State) : (enterStop s).d = s.d := rfl
@[simp] theorem enterStop_e (s : State) : (enterStop s).e = s.e := rfl
@[simp] theorem enterStop_h (s : State) : (enterStop s).h = s.h := rfl
@[simp] theorem enterStop_l (s : State) : (enterStop s).l = s.l := rfl
@[simp] theorem enterStop_f (s : State) : (enterStop s).f = s.f := rfl
@[simp] theorem enterStop_pc (s : State) : (enterStop s).pc = s.pc := rfl
@[simp] theorem enterStop_sp (s : State) : (enterStop s).sp = s.sp := rfl
@[simp] theorem enterStop_clk (s : State) : (enterStop s).clk = s.clk := rfl
@[simp] theorem enterStop_halted (s : State) : (enterStop s).halted = s.halted := rfl
@[simp] theorem enterStop_stopped (s : State) : (enterStop s).stopped = true := rfl
@[simp] theorem enterStop_ime (s : State) : (enterStop s).ime = s.ime := rfl
@[simp] theorem enterStop_mem (s : State) : (enterStop s).mem = s.mem := rfl

/-! ### `State.setReg8` -/

@[simp] theorem State.setReg8_f (s : State) (r : Reg8) (v : Byte) : (s.setReg8 r v).f = s.f := by cases r <;> rfl
@[simp] theorem State.setReg8_pc (s : State) (r : Reg8) (v : Byte) : (s.setReg8 r v).pc = s.pc := by cases r <;> rfl
@[simp] theorem State.setReg8_sp (s : State) (r : Reg8) (v : Byte) : (s.setReg8 r v).sp = s.sp := by cases r <;> rfl
@[simp] theorem State.setReg8_clk (s : State) (r : Reg8) (v : Byte) : (s.setReg8 r v).clk = s.clk := by cases r <;> rfl
@[simp] theorem State.setReg8_halted (s : State) (r : Reg8) (v : Byte) : (s.setReg8 r v).halted = s.halted := by cases r <;> rfl
@[simp] theorem State.setReg8_stopped (s : State) (r : Reg8) (v : Byte) : (s.setReg8 r v).stopped = s.stopped := by cases r <;> rfl
@[simp] theorem State.setReg8_ime (s : State) (r : Reg8) (v : Byte) : (s.setReg8 r v).ime = s.ime := by cases r <;> rfl
@[simp] theorem State.setReg8_mem (s : State) (r : Reg8) (v : Byte) : (s.setReg8 r v).mem = s.mem := by cases r <;> rfl

/-! ### `State.setReg16` -/

@[simp] theorem State.setReg16_a (s : State) (rr : Reg16) (v : Word) : (s.setReg16 rr v).a = s.a := by cases rr <;> rfl
@[simp] theorem State.setReg16_f (s : State) (rr : Reg16) (v : Word) : (s.setReg16 rr v).f = s.f := by cases rr <;> rfl
@[simp] theorem State.setReg16_pc (s : State) (rr : Reg16) (v : Word) : (s.setReg16 rr v).pc = s.pc := by cases rr <;> rfl
@[simp] theorem State.setReg16_clk (s : State) (rr : Reg16) (v : Word) : (s.setReg16 rr v).clk = s.clk := by cases rr <;> rfl
@[simp] theorem State.setReg16_halted (s : State) (rr : Reg16) (v : Word) : (s.setReg16 rr v).halted = s.halted := by cases rr <;> rfl
@[simp] theorem State.setReg16_stopped (s : State) (rr : Reg16) (v : Word) : (s.setReg16 rr v).stopped = s.stopped := by cases rr <;> rfl
@[simp] theorem State.setReg16_ime (s : State) (rr : Reg16) (v : Word) : (s.setReg16 rr v).ime = s.ime := by cases rr <;> rfl
@[simp] theorem State.setReg16_mem (s : State) (rr : Reg16) (v : Word) : (s.setReg16 rr v).mem = s.mem := by cases rr <;> rfl

/-! ### `State.setFlag` -/

@[simp] theorem State.setFlag_a (s : State) (x : Flag) (v : Bool) : (s.setFlag x v).a = s.a := by cases v <;> rfl
@[simp] theorem State.setFlag_b (s : State) (x : Flag) (v : Bool) : (s.setFlag x v).b = s.b := by cases v <;> rfl
@[simp] theorem State.setFlag_c (s : State) (x : Flag) (v : Bool) : (s.setFlag x v).c = s.c := by cases v <;> rfl
@[simp] theorem State.setFlag_d (s : State) (x : Flag) (v : Bool) : (s.setFlag x v).d = s.d := by cases v <;> rfl
@[simp] theorem State.setFlag_e (s : State) (x : Flag) (v : Bool) : (s.setFlag x v).e = s.e := by cases v <;> rfl
@[simp] theorem State.setFlag_h (s : State) (x : Flag) (v : Bool) : (s.setFlag x v).h = s.h := by cases v <;> rfl
@[simp] theorem State.setFlag_l (s : State) (x : Flag) (v : Bool) : (s.setFlag x v).l = s.l := by cases v <;> rfl
@[simp] theorem State.setFlag_pc (s : State) (x : Flag) (v : Bool) : (s.setFlag x v).pc = s.pc := by cases v <;> rfl
@[simp] theorem State.setFlag_sp (s : State) (x : Flag) (v : Bool) : (s.setFlag x v).sp = s.sp := by cases v <;> rfl
@[simp] theorem State.setFlag_clk (s : State) (x : Flag) (v : Bool) : (s.setFlag x v).clk = s.clk := by cases v <;> rfl
@[simp] theorem State.setFlag_halted (s : State) (x : Flag) (v : Bool) : (s.setFlag x v).halted = s.halted := by cases v <;> rfl
@[simp] theorem State.setFlag_stopped (s : State) (x : Flag) (v : Bool) : (s.setFlag x v).stopped = s.stopped := by cases v <;> rfl
@[simp] theorem State.setFlag_ime (s : State) (x : Flag) (v : Bool) : (s.setFlag x v).ime = s.ime := by cases v <;> rfl
@[simp] theorem State.setFlag_mem (s : State) (x : Flag) (v : Bool) : (s.setFlag x v).mem = s.mem := by cases v <;> rfl

/-! ### `State.setFlags` -/

@[simp] theorem State.setFlags_a (s : State) (z n h c : Bool) : (s.setFlags z n h c).a = s.a := by simp [State.setFlags]
@[simp] theorem State.setFlags_b (s : State) (z n h c : Bool) : (s.setFlags z n h c).b = s.b := by simp [State.setFlags]
@[simp] theorem State.setFlags_c (s : State) (z n h c : Bool) : (s.setFlags z n h c).c = s.c := by simp [State.setFlags]
@[simp] theorem State.setFlags_d (s : State) (z n h c : Bool) : (s.setFlags z n h c).d = s.d := by simp [State.setFlags]
@[simp] theorem State.setFlags_e (s : State) (z n h c : Bool) : (s.setFlags z n h c).e = s.e := by simp [State.setFlags]
@[simp] theorem State.setFlags_h (s : State) (z n h c : Bool) : (s.setFlags z n h c).h = s.h := by simp [State.setFlags]
@[simp] theorem State.setFlags_l (s : State) (z n h c : Bool) : (s.setFlags z n h c).l = s.l := by simp [State.setFlags]
@[simp] theorem State.setFlags_pc (s : State) (z n h c : Bool) : (s.setFlags z n h c).pc = s.pc := by simp [State.setFlags]
@[simp] theorem State.setFlags_sp (s : State) (z n h c : Bool) : (s.setFlags z n h c).sp = s.sp := by simp [State.setFlags]
@[simp] theorem State.setFlags_clk (s : State) (z n h c : Bool) : (s.setFlags z n h c).clk = s.clk := by simp [State.setFlags]
@[simp] theorem State.setFlags_halted (s : State) (z n h c : Bool) : (s.setFlags z n h c).halted = s.halted := by simp [State.setFlags]
@[simp] theorem State.setFlags_stopped (s : State) (z n h c : Bool) : (s.setFlags z n h c).stopped = s.stopped := by simp [State.setFlags]
@[simp] theorem State.setFlags_ime (s : State) (z n h c : Bool) : (s.setFlags z n h c).ime = s.ime := by simp [State.setFlags]
@[simp] theorem State.setFlags_mem (s : State) (z n h c : Bool) : (s.setFlags z n h c).mem = s.mem := by simp [State.setFlags]

/-! ### `State.setFlagsZNH` -/

@[simp] theorem State.setFlagsZNH_a (s : State) (z n h : Bool) : (s.setFlagsZNH z n h).a = s.a := by simp [State.setFlagsZNH]
@[simp] theorem State.setFlagsZNH_b (s : State) (z n h : Bool) : (s.setFlagsZNH z n h).b = s.b := by simp [State.setFlagsZNH]
@[simp] theorem State.setFlagsZNH_c (s : State) (z n h : Bool) : (s.setFlagsZNH z n h).c = s.c := by simp [State.setFlagsZNH]
@[simp] theorem State.setFlagsZNH_d (s : State) (z n h : Bool) : (s.setFlagsZNH z n h).d = s.d := by simp [State.setFlagsZNH]
@[simp] theorem State.setFlagsZNH_e (s : State) (z n h : Bool) : (s.setFlagsZNH z n h).e = s.e := by simp [State.setFlagsZNH]
@[simp] theorem State.setFlagsZNH_h (s : State) (z n h : Bool) : (s.setFlagsZNH z n h).h = s.h := by simp [State.setFlagsZNH]
@[simp] theorem State.setFlagsZNH_l (s : State) (z n h : Bool) : (s.setFlagsZNH z n h).l = s.l := by simp [State.setFlagsZNH]
@[simp] theorem State.setFlagsZNH_pc (s : State) (z n h : Bool) : (s.setFlagsZNH z n h).pc = s.pc := by simp [State.setFlagsZNH]
@[simp] theorem State.setFlagsZNH_sp (s : State) (z n h : Bool) : (s.setFlagsZNH z n h).sp = s.sp := by simp [State.setFlagsZNH]
@[simp] theorem State.setFlagsZNH_clk (s : State) (z n h : Bool) : (s.setFlagsZNH z n h).clk = s.clk := by simp [State.setFlagsZNH]
@[simp] theorem State.setFlagsZNH_halted (s : State) (z n h : Bool) : (s.setFlagsZNH z n h).halted = s.halted := by simp [State.setFlagsZNH]
@[simp] theorem State.setFlagsZNH_stopped (s : State) (z n h : Bool) : (s.setFlagsZNH z n h).stopped = s.stopped := by simp [State.setFlagsZNH]
@[simp] theorem State.setFlagsZNH_ime (s : State) (z n h : Bool) : (s.setFlagsZNH z n h).ime = s.ime := by simp [State.setFlagsZNH]
@[simp] theorem State.setFlagsZNH_mem (s : State) (z n h : Bool) : (s.setFlagsZNH z n h).mem = s.mem := by simp [State.setFlagsZNH]

/-! ### `State.setFlagsNHC` -/

@[simp] theorem State.setFlagsNHC_a (s : State) (n h c : Bool) : (s.setFlagsNHC n h c).a = s.a := by simp [State.setFlagsNHC]
@[simp] theorem State.setFlagsNHC_b (s : State) (n h c : Bool) : (s.setFlagsNHC n h c).b = s.b := by simp [State.setFlagsNHC]
@[simp] theorem State.setFlagsNHC_c (s : State) (n h c : Bool) : (s.setFlagsNHC n h c).c = s.c := by simp [State.setFlagsNHC]
@[simp] theorem State.setFlagsNHC_d (s : State) (n h c : Bool) : (s.setFlagsNHC n h c).d = s.d := by simp [State.setFlagsNHC]
@[simp] theorem State.setFlagsNHC_e (s : State) (n h c : Bool) : (s.setFlagsNHC n h c).e = s.e := by simp [State.setFlagsNHC]
@[simp] theorem State.setFlagsNHC_h (s : State) (n h c : Bool) : (s.setFlagsNHC n h c).h = s.h := by simp [State.setFlagsNHC]
@[simp] theorem State.setFlagsNHC_l (s : State) (n h c : Bool) : (s.setFlagsNHC n h c).l = s.l := by simp [State.setFlagsNHC]
@[simp] theorem State.setFlagsNHC_pc (s : State) (n h c : Bool) : (s.setFlagsNHC n h c).pc = s.pc := by simp [State.setFlagsNHC]
@[simp] theorem State.setFlagsNHC_sp (s : State) (n h c : Bool) : (s.setFlagsNHC n h c).sp = s.sp := by simp [State.setFlagsNHC]
@[simp] theorem State.setFlagsNHC_clk (s : State) (n h c : Bool) : (s.setFlagsNHC n h c).clk = s.clk := by simp [State.setFlagsNHC]
@[simp] theorem State.setFlagsNHC_halted (s : State) (n h c : Bool) : (s.setFlagsNHC n h c).halted = s.halted := by simp [State.setFlagsNHC]
@[simp] theorem State.setFlagsNHC_stopped (s : State) (n h c : Bool) : (s.setFlagsNHC n h c).stopped = s.stopped := by simp [State.setFlagsNHC]
@[simp] theorem State.setFlagsNHC_ime (s : State) (n h c : Bool) : (s.setFlagsNHC n h c).ime = s.ime := by simp [State.setFlagsNHC]
@[simp] theorem State.setFlagsNHC_mem (s : State) (n h c : Bool) : (s.setFlagsNHC n h c).mem = s.mem := by simp [State.setFlagsNHC]

/-! ### `State.indPost` -/

@[simp] theorem State.indPost_a (s : State) (m : IndMode) : (s.indPost m).a = s.a := by cases m <;> rfl
@[simp] theorem State.indPost_b (s : State) (m : IndMode) : (s.indPost m).b = s.b := by cases m <;> rfl
@[simp] theorem State.indPost_c (s : State) (m : IndMode) : (s.indPost m).c = s.c := by cases m <;> rfl
@[simp] theorem State.indPost_d (s : State) (m : IndMode) : (s.indPost m).d = s.d := by cases m <;> rfl
@[simp] theorem State.indPost_e (s : State) (m : IndMode) : (s.indPost m).e = s.e := by cases m <;> rfl
@[simp] theorem State.indPost_f (s : State) (m : IndMode) : (s.indPost m).f = s.f := by cases m <;> rfl
@[simp] theorem State.indPost_pc (s : State) (m : IndMode) : (s.indPost m).pc = s.pc := by cases m <;> rfl
@[simp] theorem State.indPost_sp (s : State) (m : IndMode) : (s.indPost m).sp = s.sp := by cases m <;> rfl
@[simp] theorem State.indPost_clk (s : State) (m : IndMode) : (s.indPost m).clk = s.clk := by cases m <;> rfl
@[simp] theorem State.indPost_halted (s : State) (m : IndMode) : (s.indPost m).halted = s.halted := by cases m <;> rfl
@[simp] theorem State.indPost_stopped (s : State) (m : IndMode) : (s.indPost m).stopped = s.stopped := by cases m <;> rfl
@[simp] theorem State.indPost_ime (s : State) (m : IndMode) : (s.indPost m).ime = s.ime := by cases m <;> rfl
@[simp] theorem State.indPost_mem (s : State) (m : IndMode) : (s.indPost m).mem = s.mem := by cases m <;> rfl

/-! ### The registers as read by an operand -/

@[simp] theorem State.reg8_setReg8 (s : State) (r r' : Reg8) (v : Byte) :
    (s.setReg8 r v).reg8 r' = if r' = r then v else s.reg8 r' := by
  cases r <;> cases r' <;> rfl

@[simp] theorem State.reg8_setF (s : State) (v : Byte) (r : Reg8) :
    (s.setF v).reg8 r = s.reg8 r := by
  cases r <;> rfl

@[simp] theorem State.reg8_setPc (s : State) (v : Word) (r : Reg8) :
    (s.setPc v).reg8 r = s.reg8 r := by
  cases r <;> rfl

@[simp] theorem State.reg8_setSp (s : State) (v : Word) (r : Reg8) :
    (s.setSp v).reg8 r = s.reg8 r := by
  cases r <;> rfl

@[simp] theorem State.reg8_setClock (s : State) (cost : Nat) (r : Reg8) :
    (s.setClock cost).reg8 r = s.reg8 r := by
  cases r <;> rfl

@[simp] theorem State.reg8_writeByte (s : State) (addr : Word) (v : Byte) (r : Reg8) :
    (s.writeByte addr v).reg8 r = s.reg8 r := by
  cases r <;> rfl

@[simp] theorem State.reg8_setFlag (s : State) (x : Flag) (v : Bool) (r : Reg8) :
    (s.setFlag x v).reg8 r = s.reg8 r := by
  cases r <;> simp [State.reg8]

/-- A flag write touches F alone. -/
theorem State.setFlag_eq (s : State) (x : Flag) (v : Bool) :
    s.setFlag x v = { s with f := (s.setFlag x v).f } := by
  cases v <;> rfl

end Sys2Proof.Machine
end

