-- ==== Sys2Proof/Laws/Exec.lean ====
section
/-! SUPPORT. What `exec` answers, once for all instructions: the state that the form's shared operation and its clock give. -/

namespace Sys2Proof.Machine

/-- The next state of an instruction by its form. -/
def effect (sh : Shape) (s : State) : State :=
  match sh with
  | .ldRegReg dst src => (ldRegReg dst src s).setClock 4
  | .ldRegInd dst => (ldRegInd dst s).setClock 8
  | .ldIndReg src => (ldIndReg src s).setClock 8
  | .ldRegImm dst d8 => (ldRegImm dst d8 s).setClock 8
  | .ldIndImm d8 => (ldIndImm d8 s).setClock 12
  | .storeA m => (storeA m s).setClock 8
  | .loadA m => (loadA m s).setClock 8
  | .ldPairImm rr d16 => (ldPairImm rr d16 s).setClock 12
  | .aluReg op src => (aluReg op src s).setClock 4
  | .aluInd op => (aluInd op s).setClock 8
  | .aluImm op d8 => (aluImm op d8 s).setClock 8
  | .addHl rr => (addHl rr s).setClock 8
  | .incReg r => (incReg r s).setClock 4
  | .incInd => (incInd s).setClock 12
  | .decReg r => (decReg r s).setClock 4
  | .decInd => (decInd s).setClock 12
  | .incPair rr => (incPair rr s).setClock 8
  | .decPair rr => (decPair rr s).setClock 8
  | .rlca => (rotLeftCircular s).setClock 4
  | .rrca => (rotRightCircular s).setClock 4
  | .rla => (rotLeftCarry s).setClock 4
  | .rra => (rotRightCarry s).setClock 4
  | .jr off => (jumpRel off s).setClock 12
  | .jrIf cc off => jumpRelIf cc off s
  | .daa => (decimalAdjust s).setClock 4
  | .cpl => (complementA s).setClock 4
  | .scf => (setCarry s).setClock 4
  | .ccf => (complementCarry s).setClock 4
  | .halt => (enterHalt s).setClock 4
  | .stop => (enterStop s).setClock 4

/-- Every arm of `exec` is the effect of its form. -/
theorem exec_eq_effect (i : Instr) (s : State) : exec i s = .next (effect i.shape s) := by
  cases i <;> rfl

theorem exec_instr (sh : Shape) (s : State) : exec sh.instr s = .next (effect sh s) := by
  rw [exec_eq_effect, sh.shape_instr]

/-- The inversion of `exec`: a next state is the effect of the form. -/
theorem exec_next {i : Instr} {s t : State} (h : exec i s = .next t) : t = effect i.shape s := by
  rw [exec_eq_effect] at h
  exact (Host.Outcome.next.inj h).symm

/-! What the shared operations of several updates write and leave. -/

/-- Four flag writes touch F alone. -/
theorem State.setFlags_eq (s : State) (z n h c : Bool) :
    s.setFlags z n h c = { s with f := (s.setFlags z n h c).f } := by
  cases z <;> cases n <;> cases h <;> cases c <;> rfl

/-- Three flag writes, Carry kept, touch F alone. -/
theorem State.setFlagsZNH_eq (s : State) (z n h : Bool) :
    s.setFlagsZNH z n h = { s with f := (s.setFlagsZNH z n h).f } := by
  cases z <;> cases n <;> cases h <;> rfl

/-- Three flag writes, Zero kept, touch F alone. -/
theorem State.setFlagsNHC_eq (s : State) (n h c : Bool) :
    s.setFlagsNHC n h c = { s with f := (s.setFlagsNHC n h c).f } := by
  cases n <;> cases h <;> cases c <;> rfl

/-- An 8-bit operation touches A, unless it is CP, and F. -/
theorem aluApply_eq (op : AluOp) (v : Byte) (s : State) :
    aluApply op v s = { s with
      a := if op = .cp then s.a else (alu8 op s.a v (s.flag .carry)).result
      f := (aluApply op v s).f } := by
  cases op <;> (simp only [aluApply]; rw [State.setFlags_eq]; rfl)

/-- A rotate touches A and F. -/
theorem rotated_eq (result : Byte) (out : Bool) (s : State) :
    rotated result out s = { s with a := result, f := (rotated result out s).f } := by
  cases out <;> rfl

/-- DAA touches A and F. -/
theorem decimalAdjust_eq (s : State) :
    decimalAdjust s = { s with
      a := daaResult s.a (s.flag .subtract) (s.flag .halfCarry) (s.flag .carry)
      f := (decimalAdjust s).f } := by
  simp only [decimalAdjust]
  rw [State.setFlag_eq]
  rw [State.setFlag_eq (x := .halfCarry)]
  rw [State.setFlag_eq (x := .zero)]
  rfl

/-- A conditional jump is a jump with clock 12, or nothing but clock 8. -/
theorem jumpRelIf_cases (cc : Cond) (off : Int) (s : State) :
    (s.cond cc = true ∧ jumpRelIf cc off s = (jumpRel off s).setClock 12) ∨
    (s.cond cc = false ∧ jumpRelIf cc off s = s.setClock 8) := by
  cases h : s.cond cc <;> simp [jumpRelIf, h]

end Sys2Proof.Machine
end

