-- ==== Sys2Proof/Laws/Flags.lean ====
section
/-! SUPPORT. F after the flag writes of an instruction, as a byte of its four flags. -/

namespace Sys2Proof.Machine

@[simp] theorem flagByte_zero (z n h c : Bool) : (flagByte z n h c).getLsbD 7 = z := by
  cases z <;> cases n <;> cases h <;> cases c <;> rfl

@[simp] theorem flagByte_subtract (z n h c : Bool) : (flagByte z n h c).getLsbD 6 = n := by
  cases z <;> cases n <;> cases h <;> cases c <;> rfl

@[simp] theorem flagByte_halfCarry (z n h c : Bool) : (flagByte z n h c).getLsbD 5 = h := by
  cases z <;> cases n <;> cases h <;> cases c <;> rfl

@[simp] theorem flagByte_carry (z n h c : Bool) : (flagByte z n h c).getLsbD 4 = c := by
  cases z <;> cases n <;> cases h <;> cases c <;> rfl

theorem flagByte_low (z n h c : Bool) : flagByte z n h c &&& 0x0F#8 = 0x00#8 := by
  cases z <;> cases n <;> cases h <;> cases c <;> rfl

/-- A masked F is the byte of its flags. -/
theorem mask_eq_flagByte (v : Byte) :
    v &&& 0xF0#8 = flagByte (v.getLsbD 7) (v.getLsbD 6) (v.getLsbD 5) (v.getLsbD 4) := by
  revert v; decide

/-- A flag write on the byte of four flags. -/
theorem State.setFlag_f_eq (s : State) (x : Flag) (v : Bool) :
    (s.setFlag x v).f = flagByte
      (if x = .zero then v else s.flag .zero) (if x = .subtract then v else s.flag .subtract)
      (if x = .halfCarry then v else s.flag .halfCarry) (if x = .carry then v else s.flag .carry) := by
  have key : ∀ (w : Byte) (x : Flag) (v : Bool),
      ((if v then w ||| 1#8 <<< x.bit else w &&& ~~~(1#8 <<< x.bit)) &&& 0xF0#8) = flagByte
        (if x = .zero then v else w.getLsbD 7) (if x = .subtract then v else w.getLsbD 6)
        (if x = .halfCarry then v else w.getLsbD 5) (if x = .carry then v else w.getLsbD 4) := by
    intro w x v
    revert w
    cases x <;> cases v <;> decide
  have e : (s.setFlag x v).f =
      ((if v then s.f ||| 1#8 <<< x.bit else s.f &&& ~~~(1#8 <<< x.bit)) &&& 0xF0#8) := by
    cases v <;> rfl
  rw [e]
  exact key s.f x v

theorem State.flag_setFlag (s : State) (x y : Flag) (v : Bool) :
    (s.setFlag x v).flag y = if y = x then v else s.flag y := by
  rw [State.flag, State.setFlag_f_eq]
  cases x <;> cases y <;> simp only [Flag.bit, flagByte_zero, flagByte_subtract, flagByte_halfCarry,
    flagByte_carry, reduceCtorEq, if_true, if_false, State.flag]

theorem State.setFlags_f (s : State) (z n h c : Bool) :
    (s.setFlags z n h c).f = flagByte z n h c := by
  simp [State.setFlags, State.setFlag_f_eq, State.flag_setFlag]

theorem State.setFlagsZNH_f (s : State) (z n h : Bool) :
    (s.setFlagsZNH z n h).f = flagByte z n h (s.flag .carry) := by
  simp [State.setFlagsZNH, State.setFlag_f_eq, State.flag_setFlag]

theorem State.setFlagsNHC_f (s : State) (n h c : Bool) :
    (s.setFlagsNHC n h c).f = flagByte (s.flag .zero) n h c := by
  simp [State.setFlagsNHC, State.setFlag_f_eq, State.flag_setFlag]

/-- F after an 8-bit operation. -/
theorem aluApply_f (op : AluOp) (v : Byte) (s : State) :
    (aluApply op v s).f = flagByte (alu8 op s.a v (s.flag .carry)).z (alu8 op s.a v (s.flag .carry)).n
      (alu8 op s.a v (s.flag .carry)).h (alu8 op s.a v (s.flag .carry)).c := by
  simp only [aluApply]
  rw [State.setFlags_f]

/-- F after a rotate. -/
theorem rotated_f (result : Byte) (out : Bool) (s : State) :
    (rotated result out s).f = flagByte false false false out := by
  simp only [rotated]
  rw [State.setFlags_f]

/-- F after DAA: Subtract kept, HalfCarry cleared. -/
theorem decimalAdjust_f (s : State) :
    (decimalAdjust s).f = flagByte
      (decide (daaResult s.a (s.flag .subtract) (s.flag .halfCarry) (s.flag .carry) = 0#8))
      (s.flag .subtract) false (daaHigh s.a (s.flag .subtract) (s.flag .carry)) := by
  simp only [decimalAdjust]
  rw [State.setFlag_f_eq]
  simp only [State.flag_setFlag]
  rfl

/-! What the shared operations with three flag writes do, whole. -/

/-- INC r: the register, and F with Carry kept. -/
theorem incReg_eq (r : Reg8) (s : State) :
    incReg r s = { s.setReg8 r (s.reg8 r + 1#8) with
      f := flagByte (decide (s.reg8 r + 1#8 = 0#8)) false (incHalfCarry (s.reg8 r)) (s.flag .carry) } := by
  simp only [incReg]
  rw [State.setFlagsZNH_eq, State.setFlagsZNH_f]
  cases r <;> rfl

/-- DEC r: the register, and F with Carry kept. -/
theorem decReg_eq (r : Reg8) (s : State) :
    decReg r s = { s.setReg8 r (s.reg8 r - 1#8) with
      f := flagByte (decide (s.reg8 r - 1#8 = 0#8)) true (decHalfCarry (s.reg8 r)) (s.flag .carry) } := by
  simp only [decReg]
  rw [State.setFlagsZNH_eq, State.setFlagsZNH_f]
  cases r <;> rfl

/-- INC (HL): the byte at HL, and F with Carry kept. -/
theorem incInd_eq (s : State) :
    incInd s = { s.writeInd (s.readInd + 1#8) with
      f := flagByte (decide (s.readInd + 1#8 = 0#8)) false (incHalfCarry s.readInd) (s.flag .carry) } := by
  simp only [incInd]
  rw [State.setFlagsZNH_eq, State.setFlagsZNH_f]
  rfl

/-- DEC (HL): the byte at HL, and F with Carry kept. -/
theorem decInd_eq (s : State) :
    decInd s = { s.writeInd (s.readInd - 1#8) with
      f := flagByte (decide (s.readInd - 1#8 = 0#8)) true (decHalfCarry s.readInd) (s.flag .carry) } := by
  simp only [decInd]
  rw [State.setFlagsZNH_eq, State.setFlagsZNH_f]
  rfl

/-- ADD HL,rr: H and L, and F with Zero kept. -/
theorem addHl_eq (rr : Reg16) (s : State) :
    addHl rr s = { s.setHl (s.hl + s.reg16 rr) with
      f := flagByte (s.flag .zero) false (add16HalfCarry s.hl (s.reg16 rr)) (add16Carry s.hl (s.reg16 rr)) } := by
  simp only [addHl]
  rw [State.setFlagsNHC_eq, State.setFlagsNHC_f]
  rfl

/-- SCF: F with Zero kept. -/
theorem setCarry_eq (s : State) : setCarry s = { s with f := flagByte (s.flag .zero) false false true } := by
  rw [setCarry, State.setFlagsNHC_eq, State.setFlagsNHC_f]

/-- CCF: F with Zero kept. -/
theorem complementCarry_eq (s : State) :
    complementCarry s = { s with f := flagByte (s.flag .zero) false false (!s.flag .carry) } := by
  rw [complementCarry, State.setFlagsNHC_eq, State.setFlagsNHC_f]

/-- CPL: A, and F with Zero and Carry kept. -/
theorem complementA_eq (s : State) :
    complementA s = { s with
      a := ~~~s.a
      f := flagByte (s.flag .zero) true true (s.flag .carry) } := by
  have h : (complementA s).f = flagByte (s.flag .zero) true true (s.flag .carry) := by
    simp only [complementA]
    rw [State.setFlag_f_eq]
    simp only [State.flag_setFlag]
    rfl
  rw [← h]
  rfl

end Sys2Proof.Machine
end

