-- ==== Sys2Proof/Laws/Memory.lean ====
section
/-! SUPPORT. Every operation on the byte store keeps its canonical form. -/

namespace Sys2Proof.Machine

theorem Mem.wfFrom_cons {lo k : Nat} {v : Byte} {rest : List Host.Cell} :
    Mem.wfFrom lo ((k, v) :: rest) = true ↔
      lo ≤ k ∧ k < Config.memSize ∧ v ≠ Config.memFill ∧ Mem.wfFrom (k + 1) rest = true := by
  simp [Mem.wfFrom, and_assoc]

theorem Mem.wfFrom_mono {lo lo' : Nat} {m : List Host.Cell} (h : lo' ≤ lo) (hm : Mem.wfFrom lo m = true) :
    Mem.wfFrom lo' m = true := by
  cases m with
  | nil => rfl
  | cons cell rest =>
    obtain ⟨k, v⟩ := cell
    rw [Mem.wfFrom_cons] at hm ⊢
    exact ⟨by omega, hm.2⟩

/-- A write of a cell at or above the bound keeps the form above the bound. -/
theorem Mem.wfFrom_write {m : List Host.Cell} : ∀ {lo a : Nat} (v : Byte), Mem.wfFrom lo m = true →
    lo ≤ a → a < Config.memSize → Mem.wfFrom lo (Mem.write m a v) = true := by
  induction m with
  | nil =>
    intro lo a v _ hlo ha
    by_cases hv : v = Config.memFill
    · simp [Mem.write, hv, Mem.wfFrom]
    · simp [Mem.write, hv, Mem.wfFrom, hlo, ha]
  | cons cell rest ih =>
    obtain ⟨k, w⟩ := cell
    intro lo a v hm hlo ha
    have hm' := hm
    rw [Mem.wfFrom_cons] at hm'
    obtain ⟨h1, h2, h3, h4⟩ := hm'
    by_cases hv : v = Config.memFill
    · subst hv
      rcases Nat.lt_trichotomy a k with h | h | h
      · simpa [Mem.write, h] using hm
      · subst h
        simpa [Mem.write] using Mem.wfFrom_mono (by omega) h4
      · have e : Mem.write ((k, w) :: rest) a Config.memFill =
            (k, w) :: Mem.write rest a Config.memFill := by
          simp [Mem.write, show ¬ a < k by omega, show ¬ a = k by omega]
        rw [e, Mem.wfFrom_cons]
        exact ⟨h1, h2, h3, ih _ h4 (by omega) ha⟩
    · rcases Nat.lt_trichotomy a k with h | h | h
      · have e : Mem.write ((k, w) :: rest) a v = (a, v) :: (k, w) :: rest := by
          simp [Mem.write, h, hv]
        rw [e, Mem.wfFrom_cons, Mem.wfFrom_cons]
        exact ⟨hlo, ha, hv, by omega, h2, h3, h4⟩
      · subst h
        have e : Mem.write ((a, w) :: rest) a v = (a, v) :: rest := by
          simp [Mem.write, hv]
        rw [e, Mem.wfFrom_cons]
        exact ⟨h1, h2, hv, h4⟩
      · have e : Mem.write ((k, w) :: rest) a v = (k, w) :: Mem.write rest a v := by
          simp [Mem.write, show ¬ a < k by omega, show ¬ a = k by omega]
        rw [e, Mem.wfFrom_cons]
        exact ⟨h1, h2, h3, ih _ h4 (by omega) ha⟩

/-- A write at an address of the store keeps the canonical form. -/
theorem Mem.wf_write {m : List Host.Cell} {a : Nat} (v : Byte) (hm : Mem.wf m = true)
    (ha : a < Config.memSize) : Mem.wf (Mem.write m a v) = true :=
  Mem.wfFrom_write v hm (Nat.zero_le a) ha

/-- `MemWrite` keeps the canonical form. -/
theorem State.wf_writeByte (s : State) (addr : Word) (v : Byte) (hm : Mem.wf s.mem = true) :
    Mem.wf (s.writeByte addr v).mem = true :=
  Mem.wf_write v hm addr.isLt

/-- Loading bytes keeps the canonical form. -/
theorem State.wf_storeBytes (bytes : List Byte) : ∀ (s : State) (addr : Word), Mem.wf s.mem = true →
    Mem.wf (storeBytes s addr bytes).mem = true := by
  induction bytes with
  | nil => intro s addr h; exact h
  | cons v rest ih => intro s addr h; exact ih _ _ (s.wf_writeByte addr v h)

/-- The memory of a constructed CPU has the canonical form. -/
theorem wf_memOf (cells : List Host.Cell) : Mem.wf (memOf cells) = true := by
  induction cells with
  | nil => rfl
  | cons cell rest ih =>
    obtain ⟨k, v⟩ := cell
    exact Mem.wf_write v ih (Nat.mod_lt _ (by decide))

/-- So has the memory after reset. -/
theorem wf_reset : Mem.wf State.reset.mem = true := rfl

/-- What a list of the canonical form holds below its first address: nothing. -/
theorem Mem.read_below {m : List Host.Cell} : ∀ {lo a : Nat}, Mem.wfFrom lo m = true → a < lo →
    Mem.read m a = Config.memFill := by
  induction m with
  | nil => intro lo a _ _; rfl
  | cons cell rest ih =>
    obtain ⟨k, v⟩ := cell
    intro lo a hm ha
    rw [Mem.wfFrom_cons] at hm
    rw [Mem.read, if_neg (by omega)]
    exact ih hm.2.2.2 (by omega)

/-- A write leaves every other address alone, whatever the list. -/
theorem Mem.read_write_other {m : List Host.Cell} {a b : Nat} (v : Byte) (h : b ≠ a) :
    Mem.read (Mem.write m a v) b = Mem.read m b := by
  induction m with
  | nil => by_cases hv : v = Config.memFill <;> simp [Mem.write, Mem.read, hv, h]
  | cons cell rest ih =>
    obtain ⟨k, w⟩ := cell
    by_cases hv : v = Config.memFill
    · rcases Nat.lt_trichotomy a k with h' | h' | h'
      · simp [Mem.write, h', hv]
      · subst h'; simp [Mem.write, Mem.read, hv, h]
      · subst hv
        simp [Mem.write, Mem.read, show ¬ a < k by omega, show ¬ a = k by omega, ih]
    · rcases Nat.lt_trichotomy a k with h' | h' | h'
      · simp [Mem.write, h', hv, Mem.read, h]
      · subst h'; simp [Mem.write, Mem.read, hv, h]
      · simp [Mem.write, Mem.read, show ¬ a < k by omega, show ¬ a = k by omega, ih]

/-- The construction with the spec's defaults and no memory content is the reset state. -/
theorem construct_default : construct Config.initDefault [] = State.reset := rfl

end Sys2Proof.Machine
end

