-- ==== Sys2Proof/Laws/Step.lean ====
section
/-! SUPPORT. What a step can do, said once: the fetch against the decoder, and the three outcomes of `step`. -/

namespace Sys2Proof.Machine

/-- `FetchWord` is two `FetchByte`s (40_sequencer.md R85). -/
theorem fetchWord_eq (s : State) :
    fetchWord s =
      (immWord (fetchByte s).1 (fetchByte (fetchByte s).2).1, (fetchByte (fetchByte s).2).2) := by
  simp [fetchWord, fetchByte, State.setPc, State.readByte, BitVec.add_assoc]

/-- The operand fetch of a slot reads what the decoder reads, and leaves PC past the bytes read. -/
theorem fetchOperands_read (slot : Slot) (s : State) (x y : Byte) (hx : s.readByte s.pc = x)
    (hy : s.readByte (s.pc + 1#16) = y) :
    ∃ n rest, slot.read [x, y] = .ok ((fetchOperands slot s).1, rest) ∧ rest.length + n = 2 ∧
      (fetchOperands slot s).2 = s.setPc (s.pc + BitVec.ofNat 16 n) := by
  subst hx hy
  cases slot with
  | op i => exact ⟨0, _, rfl, rfl, by simp [fetchOperands, State.setPc]⟩
  | d8 k => exact ⟨1, _, rfl, rfl, rfl⟩
  | r8 k => exact ⟨1, _, rfl, rfl, rfl⟩
  | d16 k => exact ⟨2, _, rfl, rfl, rfl⟩

/-- The three outcomes of a step (40_sequencer.md R89), by the fetch. -/
theorem step_cases (s : State) :
    (s.halted = true ∧ step s = .next s) ∨
    (s.halted = false ∧ ∃ i s', fetchInstr s = .ok (i, s') ∧ step s = .next (effect i.shape s')) ∨
    (s.halted = false ∧ fetchInstr s = .error (s.readByte s.pc, s.setPc (s.pc + 1#16)) ∧
      step s = .fault (.illegalOpcode (s.readByte s.pc) s.pc (s.setPc (s.pc + 1#16)))) := by
  cases hh : s.halted
  · right
    cases hf : fetchInstr s with
    | ok p =>
      obtain ⟨i, s'⟩ := p
      exact .inl ⟨rfl, i, s', rfl, by simp [step, hh, hf, exec_eq_effect]⟩
    | error p =>
      have hp : p = (s.readByte s.pc, s.setPc (s.pc + 1#16)) := by
        unfold fetchInstr at hf
        split at hf
        · cases hf
        · exact (Except.error.inj hf).symm
      subst hp
      exact .inr ⟨rfl, rfl, by simp [step, hh, hf, raiseIllegalOpcode]⟩
  · exact .inl ⟨rfl, by simp [step, hh]⟩

/-- The fetch moves PC and changes nothing else. -/
theorem fetchInstr_ok {s s' : State} {i : Instr} (h : fetchInstr s = .ok (i, s')) :
    ∃ n, s' = s.setPc (s.pc + BitVec.ofNat 16 n) := by
  unfold fetchInstr at h
  split at h
  · rename_i slot hslot
    have h' := Except.ok.inj h
    cases slot with
    | op k => exact ⟨1, (congrArg Prod.snd h').symm⟩
    | d8 k => exact ⟨2, (congrArg Prod.snd h').symm.trans (by
        simp [fetchOperands, fetchByte, State.setPc, BitVec.add_assoc])⟩
    | r8 k => exact ⟨2, (congrArg Prod.snd h').symm.trans (by
        simp [fetchOperands, fetchByte, State.setPc, BitVec.add_assoc])⟩
    | d16 k => exact ⟨3, (congrArg Prod.snd h').symm.trans (by
        simp [fetchOperands, fetchWord, fetchByte, State.setPc, BitVec.add_assoc])⟩
  · cases h

/-- A table hit at PC is what the decoder sees there. -/
theorem decode_bytesAtPc (s : State) :
    decode (bytesAtPc s) = match opcodeTable (s.readByte s.pc) with
      | some slot => slot.read [s.readByte (s.pc + 1#16), s.readByte (s.pc + 2#16)]
      | none => .error (.unmapped (s.readByte s.pc)) := rfl

end Sys2Proof.Machine
end

