-- ==== Sys2Proof/Tests/Slice0.lean ====
section
/-! SUPPORT. Tests: ill-formed instructions are refused, every opcode byte of 30_encoding.md R68 decodes to its instruction, single steps of 95_test_vectors.md, and for every obligation with hypotheses a state that meets them. Expected values are the spec's. -/

namespace Sys2Proof.Tests

open Sys2Proof.Machine

/-! ### Well-formedness: the one check there is (30_encoding.md R73), at both ends, for every form that has an offset -/

theorem test_wf_jr_refused : Instr.wellFormed (.jr 128) = false ∧ Instr.wellFormed (.jr (-129)) = false := by decide
theorem test_wf_jr_if_refused :
    (Instr.wellFormed (.jrNz 128) || Instr.wellFormed (.jrZ (-129)) || Instr.wellFormed (.jrNc 128) ||
      Instr.wellFormed (.jrC (-129))) = false := by decide
theorem test_wf_jr_accepted : Instr.wellFormed (.jr 127) = true ∧ Instr.wellFormed (.jr (-128)) = true := by decide

/-! ### Decoding: every row of R68, one word each, the operand bytes 5A, FA, 34 12 above the opcode byte -/

theorem test_decode_0x :
    [0x123401, 0x02, 0x03, 0x04, 0x05, 0x5A06, 0x07, 0x09, 0x0A, 0x0B, 0x0C, 0x0D, 0x5A0E, 0x0F].map (decodeTableWord 24) =
    ([.ldBcImm16 0x1234#16, .ldIndBcA, .incBc, .incB, .decB, .ldBImm 0x5A#8, .rlca, .addHlBc, .ldAIndBc, .decBc,
      .incC, .decC, .ldCImm 0x5A#8, .rrca] : List Instr).map some := by decide

theorem test_decode_1x :
    [0x10, 0x123411, 0x12, 0x13, 0x14, 0x15, 0x5A16, 0x17, 0xFA18, 0x19, 0x1A, 0x1B, 0x1C, 0x1D, 0x5A1E, 0x1F].map (decodeTableWord 24) =
    ([.stop, .ldDeImm16 0x1234#16, .ldIndDeA, .incDe, .incD, .decD, .ldDImm 0x5A#8, .rla, .jr (-6), .addHlDe,
      .ldAIndDe, .decDe, .incE, .decE, .ldEImm 0x5A#8, .rra] : List Instr).map some := by decide

theorem test_decode_2x :
    [0xFA20, 0x123421, 0x22, 0x23, 0x24, 0x25, 0x5A26, 0x27, 0xFA28, 0x29, 0x2A, 0x2B, 0x2C, 0x2D, 0x5A2E, 0x2F].map (decodeTableWord 24) =
    ([.jrNz (-6), .ldHlImm16 0x1234#16, .ldIndHlIncA, .incHl, .incH, .decH, .ldHImm 0x5A#8, .daa, .jrZ (-6),
      .addHlHl, .ldAIndHlInc, .decHl, .incL, .decL, .ldLImm 0x5A#8, .cpl] : List Instr).map some := by decide

theorem test_decode_3x :
    [0xFA30, 0x123431, 0x32, 0x33, 0x34, 0x35, 0x5A36, 0x37, 0xFA38, 0x39, 0x3A, 0x3B, 0x3C, 0x3D, 0x5A3E, 0x3F].map (decodeTableWord 24) =
    ([.jrNc (-6), .ldSpImm16 0x1234#16, .ldIndHlDecA, .incSp, .incIndHl, .decIndHl, .ldIndHlImm 0x5A#8, .scf,
      .jrC (-6), .addHlSp, .ldAIndHlDec, .decSp, .incA, .decA, .ldAImm 0x5A#8, .ccf] : List Instr).map some := by decide

theorem test_decode_4x :
    [0x40, 0x41, 0x42, 0x43, 0x44, 0x45, 0x46, 0x47, 0x48, 0x49, 0x4A, 0x4B, 0x4C, 0x4D, 0x4E, 0x4F].map (decodeTableWord 24) =
    ([.ldBB, .ldBC, .ldBD, .ldBE, .ldBH, .ldBL, .ldBIndHl, .ldBA, .ldCB, .ldCC, .ldCD, .ldCE, .ldCH, .ldCL,
      .ldCIndHl, .ldCA] : List Instr).map some := by decide

theorem test_decode_5x :
    [0x50, 0x51, 0x52, 0x53, 0x54, 0x55, 0x56, 0x57, 0x58, 0x59, 0x5A, 0x5B, 0x5C, 0x5D, 0x5E, 0x5F].map (decodeTableWord 24) =
    ([.ldDB, .ldDC, .ldDD, .ldDE, .ldDH, .ldDL, .ldDIndHl, .ldDA, .ldEB, .ldEC, .ldED, .ldEE, .ldEH, .ldEL,
      .ldEIndHl, .ldEA] : List Instr).map some := by decide

theorem test_decode_6x :
    [0x60, 0x61, 0x62, 0x63, 0x64, 0x65, 0x66, 0x67, 0x68, 0x69, 0x6A, 0x6B, 0x6C, 0x6D, 0x6E, 0x6F].map (decodeTableWord 24) =
    ([.ldHB, .ldHC, .ldHD, .ldHE, .ldHH, .ldHL, .ldHIndHl, .ldHA, .ldLB, .ldLC, .ldLD, .ldLE, .ldLH, .ldLL,
      .ldLIndHl, .ldLA] : List Instr).map some := by decide

theorem test_decode_7x :
    [0x70, 0x71, 0x72, 0x73, 0x74, 0x75, 0x76, 0x77, 0x78, 0x79, 0x7A, 0x7B, 0x7C, 0x7D, 0x7E, 0x7F].map (decodeTableWord 24) =
    ([.ldIndHlB, .ldIndHlC, .ldIndHlD, .ldIndHlE, .ldIndHlH, .ldIndHlL, .halt, .ldIndHlA, .ldAB, .ldAC, .ldAD,
      .ldAE, .ldAH, .ldAL, .ldAIndHl, .ldAA] : List Instr).map some := by decide

theorem test_decode_8x :
    [0x80, 0x81, 0x82, 0x83, 0x84, 0x85, 0x86, 0x87, 0x88, 0x89, 0x8A, 0x8B, 0x8C, 0x8D, 0x8E, 0x8F].map (decodeTableWord 24) =
    ([.addAB, .addAC, .addAD, .addAE, .addAH, .addAL, .addAIndHl, .addAA, .adcAB, .adcAC, .adcAD, .adcAE, .adcAH,
      .adcAL, .adcAIndHl, .adcAA] : List Instr).map some := by decide

theorem test_decode_9x :
    [0x90, 0x91, 0x92, 0x93, 0x94, 0x95, 0x96, 0x97, 0x98, 0x99, 0x9A, 0x9B, 0x9C, 0x9D, 0x9E, 0x9F].map (decodeTableWord 24) =
    ([.subAB, .subAC, .subAD, .subAE, .subAH, .subAL, .subAIndHl, .subAA, .sbcAB, .sbcAC, .sbcAD, .sbcAE, .sbcAH,
      .sbcAL, .sbcAIndHl, .sbcAA] : List Instr).map some := by decide

theorem test_decode_Ax :
    [0xA0, 0xA1, 0xA2, 0xA3, 0xA4, 0xA5, 0xA6, 0xA7, 0xA8, 0xA9, 0xAA, 0xAB, 0xAC, 0xAD, 0xAE, 0xAF].map (decodeTableWord 24) =
    ([.andAB, .andAC, .andAD, .andAE, .andAH, .andAL, .andAIndHl, .andAA, .xorAB, .xorAC, .xorAD, .xorAE, .xorAH,
      .xorAL, .xorAIndHl, .xorAA] : List Instr).map some := by decide

theorem test_decode_Bx :
    [0xB0, 0xB1, 0xB2, 0xB3, 0xB4, 0xB5, 0xB6, 0xB7, 0xB8, 0xB9, 0xBA, 0xBB, 0xBC, 0xBD, 0xBE, 0xBF].map (decodeTableWord 24) =
    ([.orAB, .orAC, .orAD, .orAE, .orAH, .orAL, .orAIndHl, .orAA, .cpAB, .cpAC, .cpAD, .cpAE, .cpAH, .cpAL,
      .cpAIndHl, .cpAA] : List Instr).map some := by decide

theorem test_decode_Cx :
    [0x5AC6, 0x5ACE].map (decodeTableWord 24) =
    ([.addAImm 0x5A#8, .adcAImm 0x5A#8] : List Instr).map some := by decide

theorem test_decode_Dx :
    [0x5AD6, 0x5ADE].map (decodeTableWord 24) =
    ([.subAImm 0x5A#8, .sbcAImm 0x5A#8] : List Instr).map some := by decide

theorem test_decode_Ex :
    [0x5AE6, 0x5AEE].map (decodeTableWord 24) =
    ([.andAImm 0x5A#8, .xorAImm 0x5A#8] : List Instr).map some := by decide

theorem test_decode_Fx :
    [0x5AF6, 0x5AFE].map (decodeTableWord 24) =
    ([.orAImm 0x5A#8, .cpAImm 0x5A#8] : List Instr).map some := by decide

theorem test_decode_unmapped :
    [0x00, 0x08, 0xC0, 0xC3, 0xC9, 0xCB, 0xCD, 0xD3, 0xE0, 0xF3, 0xFB, 0xFF].map (decodeTableWord 24) =
    List.replicate 12 none := by decide
theorem test_decode_short : (decode []).toOption = none ∧ (decode [0x3E#8]).toOption = none ∧
    (decode [0x31#8, 0xFE#8]).toOption = none := by decide
theorem test_decode_leaves_rest : (decode [0x20#8, 0xFA#8, 0x76#8]).toOption = some (.jrNz (-6), [0x76#8]) := by decide

/-! ### Single steps: vectors of 95_test_vectors.md, Parts 2 and 3 -/

/-- PC = 0x0100, everything else zero or false, memory 0x00. -/
def base : State :=
  { a := 0x00#8, b := 0x00#8, c := 0x00#8, d := 0x00#8, e := 0x00#8, h := 0x00#8, l := 0x00#8, f := 0x00#8,
    pc := 0x0100#16, sp := 0x0000#16, clk := { m := 0, t := 0 }, halted := false, stopped := false, ime := false,
    mem := [] }

/-- The state after one step from `s` with `bytes` at PC, on top of the memory of `s`. -/
def after (bytes : List Byte) (s : State) : Option State :=
  match step (storeBytes s s.pc bytes) with
  | .next t => some t
  | .fault _ => none
  | .refused _ => none

/-- What IllegalOpcode reports and leaves: opcode, address, PC, A, F, T-states. -/
def miss (s : State) : Option (Byte × Word × Word × Byte × Byte × Nat) :=
  match step s with
  | .next _ => none
  | .fault (.illegalOpcode opcode pcFetch left) => some (opcode, pcFetch, left.pc, left.a, left.f, left.clk.t)
  | .refused _ => none

/-- V1: LD B,C, 41. -/
theorem test_v1 : (after [0x41#8] { base with b := 0x11#8, c := 0x22#8, f := 0xF0#8 }).map (fun t => (t.b, t.c, t.f, t.pc, t.clk.m, t.clk.t)) =
    some (0x22#8, 0x22#8, 0xF0#8, 0x0101#16, 1, 4) := by decide

/-- V4: LD H,(HL), 66. -/
theorem test_v4 : (after [0x66#8] { base with h := 0xC0#8, l := 0x00#8, mem := [(0xC000, 0x12#8)] }).map (fun t => (t.h, t.l, t.pc, t.clk.m, t.clk.t)) =
    some (0x12#8, 0x00#8, 0x0101#16, 2, 8) := by decide

/-- V6: LD (HL),H, 74. -/
theorem test_v6 : (after [0x74#8] { base with h := 0xC0#8, l := 0x10#8 }).map (fun t => (t.hl, t.readByte 0xC010#16, t.pc, t.clk.m, t.clk.t)) =
    some (0xC010#16, 0xC0#8, 0x0101#16, 2, 8) := by decide

/-- V8: LD A,d8, 3E 05. -/
theorem test_v8 : (after [0x3E#8, 0x05#8] { base with a := 0x00#8 }).map (fun t => (t.a, t.f, t.pc, t.clk.m, t.clk.t)) =
    some (0x05#8, 0x00#8, 0x0102#16, 2, 8) := by decide

/-- V11: LD (HL),d8, 36 AB. -/
theorem test_v11 : (after [0x36#8, 0xAB#8] { base with h := 0x01#8, l := 0x01#8 }).map (fun t => (t.hl, t.readByte 0x0101#16, t.pc, t.clk.m, t.clk.t)) =
    some (0x0101#16, 0xAB#8, 0x0102#16, 3, 12) := by decide

/-- V13: LD (DE),A, 12. -/
theorem test_v13 : (after [0x12#8] { base with d := 0xFF#8, e := 0xFF#8, a := 0x01#8 }).map (fun t => (t.de, t.readByte 0xFFFF#16, t.pc, t.clk.m, t.clk.t)) =
    some (0xFFFF#16, 0x01#8, 0x0101#16, 2, 8) := by decide

/-- V15: LD A,(DE), 1A. -/
theorem test_v15 : (after [0x1A#8] { base with d := 0x00#8, e := 0x00#8, mem := [(0x0000, 0xE7#8)] }).map (fun t => (t.a, t.de, t.pc, t.clk.m, t.clk.t)) =
    some (0xE7#8, 0x0000#16, 0x0101#16, 2, 8) := by decide

/-- V17: LD (HL+),A, 22. -/
theorem test_v17 : (after [0x22#8] { base with h := 0xFF#8, l := 0xFF#8, a := 0x56#8 }).map (fun t => (t.hl, t.readByte 0xFFFF#16, t.pc, t.clk.m, t.clk.t)) =
    some (0x0000#16, 0x56#8, 0x0101#16, 2, 8) := by decide

/-- V19: LD (HL-),A, 32. -/
theorem test_v19 : (after [0x32#8] { base with h := 0x00#8, l := 0x00#8, a := 0x9A#8 }).map (fun t => (t.hl, t.readByte 0x0000#16, t.pc, t.clk.m, t.clk.t)) =
    some (0xFFFF#16, 0x9A#8, 0x0101#16, 2, 8) := by decide

/-- V20: LD A,(HL+), 2A. -/
theorem test_v20 : (after [0x2A#8] { base with h := 0xC1#8, l := 0xFF#8, mem := [(0xC1FF, 0x3C#8)] }).map (fun t => (t.a, t.hl, t.pc, t.clk.m, t.clk.t)) =
    some (0x3C#8, 0xC200#16, 0x0101#16, 2, 8) := by decide

/-- V21: LD A,(HL-), 3A. -/
theorem test_v21 : (after [0x3A#8] { base with h := 0xC2#8, l := 0x00#8, mem := [(0xC200, 0x3D#8)] }).map (fun t => (t.a, t.hl, t.pc, t.clk.m, t.clk.t)) =
    some (0x3D#8, 0xC1FF#16, 0x0101#16, 2, 8) := by decide

/-- V22: LD BC,d16, 01 34 12. -/
theorem test_v22 : (after [0x01#8, 0x34#8, 0x12#8] { base with b := 0x00#8, c := 0x00#8 }).map (fun t => (t.b, t.c, t.bc, t.pc, t.clk.m, t.clk.t)) =
    some (0x12#8, 0x34#8, 0x1234#16, 0x0103#16, 3, 12) := by decide

/-- V24: LD SP,d16, 31 FE FF. -/
theorem test_v24 : (after [0x31#8, 0xFE#8, 0xFF#8] { base with sp := 0x0000#16 }).map (fun t => (t.sp, t.pc, t.clk.m, t.clk.t)) =
    some (0xFFFE#16, 0x0103#16, 3, 12) := by decide

/-- V25: LD DE,d16, 11 CD AB. -/
theorem test_v25 : (after [0x11#8, 0xCD#8, 0xAB#8] { base with pc := 0xFFFE#16 }).map (fun t => (t.de, t.pc, t.clk.m, t.clk.t)) =
    some (0xABCD#16, 0x0001#16, 3, 12) := by decide

/-- V26: LD A,d8, 3E 77. -/
theorem test_v26 : (after [0x3E#8, 0x77#8] { base with pc := 0xFFFF#16 }).map (fun t => (t.a, t.pc, t.clk.m, t.clk.t)) =
    some (0x77#8, 0x0001#16, 2, 8) := by decide

/-- V31: ADD A,B, 80. -/
theorem test_v31 : (after [0x80#8] { base with a := 0x3A#8, b := 0xC6#8, f := 0x00#8 }).map (fun t => (t.a, t.f, t.pc, t.clk.m, t.clk.t)) =
    some (0x00#8, 0xB0#8, 0x0101#16, 1, 4) := by decide

/-- V32: ADD A,B, 80. -/
theorem test_v32 : (after [0x80#8] { base with a := 0x0F#8, b := 0x01#8, f := 0xF0#8 }).map (fun t => (t.a, t.f, t.pc, t.clk.m, t.clk.t)) =
    some (0x10#8, 0x20#8, 0x0101#16, 1, 4) := by decide

/-- V33: ADD A,A, 87. -/
theorem test_v33 : (after [0x87#8] { base with a := 0x80#8 }).map (fun t => (t.a, t.f, t.pc, t.clk.m, t.clk.t)) =
    some (0x00#8, 0x90#8, 0x0101#16, 1, 4) := by decide

/-- V34: ADD A,(HL), 86. -/
theorem test_v34 : (after [0x86#8] { base with a := 0x12#8, h := 0xC0#8, l := 0x00#8, mem := [(0xC000, 0x34#8)] }).map (fun t => (t.a, t.f, t.pc, t.clk.m, t.clk.t)) =
    some (0x46#8, 0x00#8, 0x0101#16, 2, 8) := by decide

/-- V35: ADD A,d8, C6 FF. -/
theorem test_v35 : (after [0xC6#8, 0xFF#8] { base with a := 0x01#8 }).map (fun t => (t.a, t.f, t.pc, t.clk.m, t.clk.t)) =
    some (0x00#8, 0xB0#8, 0x0102#16, 2, 8) := by decide

/-- V37: ADC A,d8, CE FF. -/
theorem test_v37 : (after [0xCE#8, 0xFF#8] { base with a := 0xFF#8, f := 0x10#8 }).map (fun t => (t.a, t.f, t.pc, t.clk.m, t.clk.t)) =
    some (0xFF#8, 0x30#8, 0x0102#16, 2, 8) := by decide

/-- V39: ADC A,(HL), 8E. -/
theorem test_v39 : (after [0x8E#8] { base with a := 0x00#8, f := 0x00#8, h := 0xC0#8, l := 0x00#8 }).map (fun t => (t.a, t.f, t.pc, t.clk.m, t.clk.t)) =
    some (0x00#8, 0x80#8, 0x0101#16, 2, 8) := by decide

/-- V40: SUB A,A, 97. -/
theorem test_v40 : (after [0x97#8] { base with a := 0x3E#8, f := 0x10#8 }).map (fun t => (t.a, t.f, t.pc, t.clk.m, t.clk.t)) =
    some (0x00#8, 0xC0#8, 0x0101#16, 1, 4) := by decide

/-- V43: SUB A,B, 90. -/
theorem test_v43 : (after [0x90#8] { base with a := 0x00#8, b := 0x01#8 }).map (fun t => (t.a, t.f, t.pc, t.clk.m, t.clk.t)) =
    some (0xFF#8, 0x70#8, 0x0101#16, 1, 4) := by decide

/-- V44: SUB A,(HL), 96. -/
theorem test_v44 : (after [0x96#8] { base with a := 0x10#8, h := 0xC0#8, l := 0x00#8, mem := [(0xC000, 0x01#8)] }).map (fun t => (t.a, t.f, t.pc, t.clk.m, t.clk.t)) =
    some (0x0F#8, 0x60#8, 0x0101#16, 2, 8) := by decide

/-- V46: SBC A,d8, DE FF. -/
theorem test_v46 : (after [0xDE#8, 0xFF#8] { base with a := 0x00#8, f := 0x10#8 }).map (fun t => (t.a, t.f, t.pc, t.clk.m, t.clk.t)) =
    some (0x00#8, 0xF0#8, 0x0102#16, 2, 8) := by decide

/-- V47: SBC A,d8, DE 0F. -/
theorem test_v47 : (after [0xDE#8, 0x0F#8] { base with a := 0x10#8, f := 0x10#8 }).map (fun t => (t.a, t.f, t.pc, t.clk.m, t.clk.t)) =
    some (0x00#8, 0xE0#8, 0x0102#16, 2, 8) := by decide

/-- V48: SBC A,A, 9F. -/
theorem test_v48 : (after [0x9F#8] { base with a := 0x77#8, f := 0x10#8 }).map (fun t => (t.a, t.f, t.pc, t.clk.m, t.clk.t)) =
    some (0xFF#8, 0x70#8, 0x0101#16, 1, 4) := by decide

/-- V50: AND A,d8, E6 3F. -/
theorem test_v50 : (after [0xE6#8, 0x3F#8] { base with a := 0x5A#8, f := 0xD0#8 }).map (fun t => (t.a, t.f, t.pc, t.clk.m, t.clk.t)) =
    some (0x1A#8, 0x20#8, 0x0102#16, 2, 8) := by decide

/-- V51: AND A,B, A0. -/
theorem test_v51 : (after [0xA0#8] { base with a := 0xF0#8, b := 0x0F#8 }).map (fun t => (t.a, t.f, t.pc, t.clk.m, t.clk.t)) =
    some (0x00#8, 0xA0#8, 0x0101#16, 1, 4) := by decide

/-- V53: AND A,(HL), A6. -/
theorem test_v53 : (after [0xA6#8] { base with a := 0xFF#8, h := 0xC0#8, l := 0x00#8, mem := [(0xC000, 0x81#8)] }).map (fun t => (t.a, t.f, t.pc, t.clk.m, t.clk.t)) =
    some (0x81#8, 0x20#8, 0x0101#16, 2, 8) := by decide

/-- V55: XOR A,A, AF. -/
theorem test_v55 : (after [0xAF#8] { base with a := 0x9C#8, f := 0x70#8 }).map (fun t => (t.a, t.f, t.pc, t.clk.m, t.clk.t)) =
    some (0x00#8, 0x80#8, 0x0101#16, 1, 4) := by decide

/-- V57: OR A,d8, F6 03. -/
theorem test_v57 : (after [0xF6#8, 0x03#8] { base with a := 0x5A#8, f := 0xF0#8 }).map (fun t => (t.a, t.f, t.pc, t.clk.m, t.clk.t)) =
    some (0x5B#8, 0x00#8, 0x0102#16, 2, 8) := by decide

/-- V58: OR A,A, B7. -/
theorem test_v58 : (after [0xB7#8] { base with a := 0x00#8, f := 0x10#8 }).map (fun t => (t.a, t.f, t.pc, t.clk.m, t.clk.t)) =
    some (0x00#8, 0x80#8, 0x0101#16, 1, 4) := by decide

/-- V60: CP A,d8, FE 2F. -/
theorem test_v60 : (after [0xFE#8, 0x2F#8] { base with a := 0x3C#8 }).map (fun t => (t.a, t.f, t.pc, t.clk.m, t.clk.t)) =
    some (0x3C#8, 0x60#8, 0x0102#16, 2, 8) := by decide

/-- V62: CP A,d8, FE 40. -/
theorem test_v62 : (after [0xFE#8, 0x40#8] { base with a := 0x3C#8 }).map (fun t => (t.a, t.f, t.pc, t.clk.m, t.clk.t)) =
    some (0x3C#8, 0x50#8, 0x0102#16, 2, 8) := by decide

/-- V64: CP A,(HL), BE. -/
theorem test_v64 : (after [0xBE#8] { base with a := 0x00#8, h := 0xC0#8, l := 0x00#8, mem := [(0xC000, 0x01#8)] }).map (fun t => (t.a, t.f, t.pc, t.clk.m, t.clk.t)) =
    some (0x00#8, 0x70#8, 0x0101#16, 2, 8) := by decide

/-- V71: ADD HL,BC, 09. -/
theorem test_v71 : (after [0x09#8] { base with h := 0x00#8, l := 0xFF#8, b := 0x00#8, c := 0x01#8, f := 0x00#8 }).map (fun t => (t.hl, t.f, t.pc, t.clk.m, t.clk.t)) =
    some (0x0100#16, 0x00#8, 0x0101#16, 2, 8) := by decide

/-- V73: ADD HL,DE, 19. -/
theorem test_v73 : (after [0x19#8] { base with h := 0x8A#8, l := 0x23#8, d := 0x06#8, e := 0x05#8, f := 0xC0#8 }).map (fun t => (t.hl, t.f, t.pc, t.clk.m, t.clk.t)) =
    some (0x9028#16, 0xA0#8, 0x0101#16, 2, 8) := by decide

/-- V74: ADD HL,HL, 29. -/
theorem test_v74 : (after [0x29#8] { base with h := 0x8A#8, l := 0x23#8 }).map (fun t => (t.hl, t.f, t.pc, t.clk.m, t.clk.t)) =
    some (0x1446#16, 0x30#8, 0x0101#16, 2, 8) := by decide

/-- V76: ADD HL,BC, 09. -/
theorem test_v76 : (after [0x09#8] { base with h := 0xFF#8, l := 0xFF#8, b := 0x00#8, c := 0x01#8, f := 0x80#8 }).map (fun t => (t.hl, t.f, t.pc, t.clk.m, t.clk.t)) =
    some (0x0000#16, 0xB0#8, 0x0101#16, 2, 8) := by decide

/-- V78: ADD HL,SP, 39. -/
theorem test_v78 : (after [0x39#8] { base with h := 0x00#8, l := 0x01#8, sp := 0xFFFF#16, f := 0x40#8 }).map (fun t => (t.hl, t.sp, t.f, t.pc, t.clk.m, t.clk.t)) =
    some (0x0000#16, 0xFFFF#16, 0x30#8, 0x0101#16, 2, 8) := by decide

/-- V92: INC A, 3C. -/
theorem test_v92 : (after [0x3C#8] { base with a := 0xFF#8, f := 0x10#8 }).map (fun t => (t.a, t.f, t.pc, t.clk.m, t.clk.t)) =
    some (0x00#8, 0xB0#8, 0x0101#16, 1, 4) := by decide

/-- V93: INC B, 04. -/
theorem test_v93 : (after [0x04#8] { base with b := 0x0F#8, f := 0xC0#8 }).map (fun t => (t.b, t.f, t.pc, t.clk.m, t.clk.t)) =
    some (0x10#8, 0x20#8, 0x0101#16, 1, 4) := by decide

/-- V95: INC H, 24. -/
theorem test_v95 : (after [0x24#8] { base with h := 0x00#8, l := 0xFF#8 }).map (fun t => (t.h, t.l, t.f, t.pc, t.clk.m, t.clk.t)) =
    some (0x01#8, 0xFF#8, 0x00#8, 0x0101#16, 1, 4) := by decide

/-- V96: DEC A, 3D. -/
theorem test_v96 : (after [0x3D#8] { base with a := 0x01#8, f := 0x10#8 }).map (fun t => (t.a, t.f, t.pc, t.clk.m, t.clk.t)) =
    some (0x00#8, 0xD0#8, 0x0101#16, 1, 4) := by decide

/-- V97: DEC B, 05. -/
theorem test_v97 : (after [0x05#8] { base with b := 0x00#8, f := 0x00#8 }).map (fun t => (t.b, t.f, t.pc, t.clk.m, t.clk.t)) =
    some (0xFF#8, 0x60#8, 0x0101#16, 1, 4) := by decide

/-- V98: DEC L, 2D. -/
theorem test_v98 : (after [0x2D#8] { base with l := 0x10#8, f := 0x80#8 }).map (fun t => (t.l, t.f, t.pc, t.clk.m, t.clk.t)) =
    some (0x0F#8, 0x60#8, 0x0101#16, 1, 4) := by decide

/-- V100: INC (HL), 34. -/
theorem test_v100 : (after [0x34#8] { base with h := 0xC0#8, l := 0x00#8, f := 0x10#8, mem := [(0xC000, 0x4F#8)] }).map (fun t => (t.f, t.readByte 0xC000#16, t.pc, t.clk.m, t.clk.t)) =
    some (0x30#8, 0x50#8, 0x0101#16, 3, 12) := by decide

/-- V102: DEC (HL), 35. -/
theorem test_v102 : (after [0x35#8] { base with h := 0xC0#8, l := 0x00#8, f := 0x10#8, mem := [(0xC000, 0x01#8)] }).map (fun t => (t.f, t.readByte 0xC000#16, t.pc, t.clk.m, t.clk.t)) =
    some (0xD0#8, 0x00#8, 0x0101#16, 3, 12) := by decide

/-- V104: INC BC, 03. -/
theorem test_v104 : (after [0x03#8] { base with b := 0x00#8, c := 0xFF#8, f := 0xF0#8 }).map (fun t => (t.bc, t.f, t.pc, t.clk.m, t.clk.t)) =
    some (0x0100#16, 0xF0#8, 0x0101#16, 2, 8) := by decide

/-- V105: INC HL, 23. -/
theorem test_v105 : (after [0x23#8] { base with h := 0xFF#8, l := 0xFF#8, f := 0x00#8 }).map (fun t => (t.hl, t.f, t.pc, t.clk.m, t.clk.t)) =
    some (0x0000#16, 0x00#8, 0x0101#16, 2, 8) := by decide

/-- V106: INC SP, 33. -/
theorem test_v106 : (after [0x33#8] { base with sp := 0xFFFF#16 }).map (fun t => (t.sp, t.f, t.pc, t.clk.m, t.clk.t)) =
    some (0x0000#16, 0x00#8, 0x0101#16, 2, 8) := by decide

/-- V107: DEC BC, 0B. -/
theorem test_v107 : (after [0x0B#8] { base with b := 0x00#8, c := 0x00#8, f := 0x00#8 }).map (fun t => (t.bc, t.f, t.pc, t.clk.m, t.clk.t)) =
    some (0xFFFF#16, 0x00#8, 0x0101#16, 2, 8) := by decide

/-- V109: DEC SP, 3B. -/
theorem test_v109 : (after [0x3B#8] { base with sp := 0x0000#16 }).map (fun t => (t.sp, t.f, t.pc, t.clk.m, t.clk.t)) =
    some (0xFFFF#16, 0x00#8, 0x0101#16, 2, 8) := by decide

/-- V121: RLCA, 07. -/
theorem test_v121 : (after [0x07#8] { base with a := 0x80#8, f := 0xE0#8 }).map (fun t => (t.a, t.f, t.pc, t.clk.m, t.clk.t)) =
    some (0x01#8, 0x10#8, 0x0101#16, 1, 4) := by decide

/-- V125: RRCA, 0F. -/
theorem test_v125 : (after [0x0F#8] { base with a := 0x01#8, f := 0x80#8 }).map (fun t => (t.a, t.f, t.pc, t.clk.m, t.clk.t)) =
    some (0x80#8, 0x10#8, 0x0101#16, 1, 4) := by decide

/-- V127: RLA, 17. -/
theorem test_v127 : (after [0x17#8] { base with a := 0x80#8, f := 0x00#8 }).map (fun t => (t.a, t.f, t.pc, t.clk.m, t.clk.t)) =
    some (0x00#8, 0x10#8, 0x0101#16, 1, 4) := by decide

/-- V128: RLA, 17. -/
theorem test_v128 : (after [0x17#8] { base with a := 0x00#8, f := 0x10#8 }).map (fun t => (t.a, t.f, t.pc, t.clk.m, t.clk.t)) =
    some (0x01#8, 0x00#8, 0x0101#16, 1, 4) := by decide

/-- V130: RRA, 1F. -/
theorem test_v130 : (after [0x1F#8] { base with a := 0x00#8, f := 0x10#8 }).map (fun t => (t.a, t.f, t.pc, t.clk.m, t.clk.t)) =
    some (0x80#8, 0x00#8, 0x0101#16, 1, 4) := by decide

/-- V131: RRA, 1F. -/
theorem test_v131 : (after [0x1F#8] { base with a := 0x01#8, f := 0xE0#8 }).map (fun t => (t.a, t.f, t.pc, t.clk.m, t.clk.t)) =
    some (0x00#8, 0x10#8, 0x0101#16, 1, 4) := by decide

/-- V145: JR r8, 18 02. -/
theorem test_v145 : (after [0x18#8, 0x02#8] { base with pc := 0xFFFE#16 }).map (fun t => (t.pc, t.clk.m, t.clk.t)) =
    some (0x0002#16, 3, 12) := by decide

/-- V148: JR r8, 18 80. -/
theorem test_v148 : (after [0x18#8, 0x80#8] base).map (fun t => (t.pc, t.clk.m, t.clk.t)) =
    some (0x0082#16, 3, 12) := by decide

/-- V149: JR NZ,r8, 20 FA. -/
theorem test_v149 : (after [0x20#8, 0xFA#8] { base with f := 0x00#8, pc := 0x0150#16 }).map (fun t => (t.f, t.pc, t.clk.m, t.clk.t)) =
    some (0x00#8, 0x014C#16, 3, 12) := by decide

/-- V150: JR NZ,r8, 20 FA. -/
theorem test_v150 : (after [0x20#8, 0xFA#8] { base with f := 0x80#8, pc := 0x0150#16 }).map (fun t => (t.f, t.pc, t.clk.m, t.clk.t)) =
    some (0x80#8, 0x0152#16, 2, 8) := by decide

/-- V151: JR Z,r8, 28 10. -/
theorem test_v151 : (after [0x28#8, 0x10#8] { base with f := 0x80#8 }).map (fun t => (t.f, t.pc, t.clk.m, t.clk.t)) =
    some (0x80#8, 0x0112#16, 3, 12) := by decide

/-- V152: JR Z,r8, 28 10. -/
theorem test_v152 : (after [0x28#8, 0x10#8] { base with f := 0x70#8 }).map (fun t => (t.f, t.pc, t.clk.m, t.clk.t)) =
    some (0x70#8, 0x0102#16, 2, 8) := by decide

/-- V153: JR NC,r8, 30 80. -/
theorem test_v153 : (after [0x30#8, 0x80#8] { base with f := 0x00#8 }).map (fun t => (t.f, t.pc, t.clk.m, t.clk.t)) =
    some (0x00#8, 0x0082#16, 3, 12) := by decide

/-- V154: JR NC,r8, 30 80. -/
theorem test_v154 : (after [0x30#8, 0x80#8] { base with f := 0x10#8 }).map (fun t => (t.f, t.pc, t.clk.m, t.clk.t)) =
    some (0x10#8, 0x0102#16, 2, 8) := by decide

/-- V155: JR C,r8, 38 7F. -/
theorem test_v155 : (after [0x38#8, 0x7F#8] { base with f := 0x10#8 }).map (fun t => (t.f, t.pc, t.clk.m, t.clk.t)) =
    some (0x10#8, 0x0181#16, 3, 12) := by decide

/-- V156: JR C,r8, 38 7F. -/
theorem test_v156 : (after [0x38#8, 0x7F#8] { base with f := 0xE0#8 }).map (fun t => (t.f, t.pc, t.clk.m, t.clk.t)) =
    some (0xE0#8, 0x0102#16, 2, 8) := by decide

/-- V166: DAA, 27. -/
theorem test_v166 : (after [0x27#8] { base with a := 0xFF#8, f := 0x00#8 }).map (fun t => (t.a, t.f, t.pc, t.clk.m, t.clk.t)) =
    some (0x65#8, 0x10#8, 0x0101#16, 1, 4) := by decide

/-- V170: DAA, 27. -/
theorem test_v170 : (after [0x27#8] { base with a := 0x00#8, f := 0x70#8 }).map (fun t => (t.a, t.f, t.pc, t.clk.m, t.clk.t)) =
    some (0x9A#8, 0x50#8, 0x0101#16, 1, 4) := by decide

/-- V176: CPL, 2F. -/
theorem test_v176 : (after [0x2F#8] { base with a := 0xFF#8, f := 0x90#8 }).map (fun t => (t.a, t.f, t.pc, t.clk.m, t.clk.t)) =
    some (0x00#8, 0xF0#8, 0x0101#16, 1, 4) := by decide

/-- V177: SCF, 37. -/
theorem test_v177 : (after [0x37#8] { base with f := 0xE0#8, a := 0x12#8 }).map (fun t => (t.a, t.f, t.pc, t.clk.m, t.clk.t)) =
    some (0x12#8, 0x90#8, 0x0101#16, 1, 4) := by decide

/-- V179: CCF, 3F. -/
theorem test_v179 : (after [0x3F#8] { base with f := 0xF0#8 }).map (fun t => (t.f, t.pc, t.clk.m, t.clk.t)) =
    some (0x80#8, 0x0101#16, 1, 4) := by decide

/-- V181: CCF, 3F. -/
theorem test_v181 : (after [0x3F#8] { base with f := 0x80#8 }).map (fun t => (t.f, t.pc, t.clk.m, t.clk.t)) =
    some (0x90#8, 0x0101#16, 1, 4) := by decide

/-- V191: HALT, 76. -/
theorem test_v191 : (after [0x76#8] { base with f := 0x50#8, pc := 0x0200#16 }).map (fun t => (t.f, t.halted, t.stopped, t.pc, t.clk.m, t.clk.t)) =
    some (0x50#8, true, false, 0x0201#16, 1, 4) := by decide

/-- V193: STOP, 10 00. -/
theorem test_v193 : (after [0x10#8, 0x00#8] { base with pc := 0x0300#16 }).map (fun t => (t.halted, t.stopped, t.pc, t.clk.m, t.clk.t)) =
    some (false, true, 0x0301#16, 1, 4) := by decide

/-- S1: a halted step changes nothing, on a mapped and on an unmapped byte. -/
theorem test_s1 : after [0x3C#8] { base with halted := true } = some { base with halted := true, mem := [(0x0100, 0x3C#8)] } ∧
    after [0xC3#8] { base with halted := true } = some { base with halted := true, mem := [(0x0100, 0xC3#8)] } := by decide

/-- S2: the host wakes the core; INC A then runs. -/
theorem test_s2 : (after [0x3C#8] (hostAct (.writeHalted false) { base with a := 0x12#8, f := 0x50#8, halted := true })).map
    (fun t => (t.a, t.f, t.halted)) = some (0x13#8, 0x10#8, false) := by decide

/-- S3: stopped does not gate. -/
theorem test_s3 : (after [0x3C#8] { base with stopped := true }).map (fun t => (t.a, t.stopped, t.clk.t)) =
    some (0x01#8, true, 4) := by decide

/-- V201: a miss leaves PC advanced and the rest as it was. -/
theorem test_v201 : miss { base with pc := 0x0400#16, a := 0x11#8, f := 0x50#8 } =
    some (0x00#8, 0x0400#16, 0x0401#16, 0x11#8, 0x50#8, 0) := by decide

/-- V212: a miss at the top of the address space. -/
theorem test_v212 : miss { base with pc := 0xFFFF#16, mem := [(0xFFFF, 0xFF#8)] } =
    some (0xFF#8, 0xFFFF#16, 0x0000#16, 0x00#8, 0x00#8, 0) := by decide

/-- E2: the AF round trip masks the low nibble. -/
theorem test_e2 : hostRead (.pair .af) (hostAct (.writePair .af 0x12FF) base) = 0x12F0 ∧
    hostRead .f (hostAct (.writePair .af 0x12FF) base) = 0xF0 ∧
    hostRead (.pair .af) (hostAct (.writePair .af 0xABCD) base) = 0xABC0 ∧
    hostRead (.pair .bc) (hostAct (.writePair .bc 0x1234) base) = 0x1234 := by decide

/-- A placed word runs as the first instruction after reset, `LD SP,d16` with the word FFFE. -/
theorem test_fetch_word : (after [] (State.reset.withFetchWord 24 0xFFFE31)).map (fun t => (t.sp, t.pc)) =
    some (0xFFFE#16, 0x0003#16) := by decide

/-- Memory keeps its canonical form: 0x00 written over a byte takes its entry away. -/
theorem test_write_fill : ((base.writeByte 0xC000#16 0x5A#8).writeByte 0xC000#16 0x00#8).mem = [] ∧
    (((base.writeByte 2#16 7#8).writeByte 1#16 9#8).writeByte 3#16 5#8).mem = [(1, 9#8), (2, 7#8), (3, 5#8)] := by decide

/-! ### Witnesses: for each obligation with hypotheses, a concrete input that meets all of them, and one per clause at its boundary -/

/-- `base` with some bytes at 0x0100 and on. -/
def holding (bytes : List Byte) (s : State) : State := storeBytes s s.pc bytes

/-- DecodeInvertsEncode: both ends of the offset range, and the widest immediate. -/
theorem witness_decode_inverts_encode : WellFormed (.jr (-128)) ∧ WellFormed (.jrC 127) ∧
    WellFormed (.ldSpImm16 0xFFFF#16) ∧ WellFormed .halt := by decide

/-- EncodeInvertsDecode, at both ends of the offset range. -/
theorem witness_encode_inverts_decode : decode [0x18#8, 0x80#8] = .ok (.jr (-128), []) ∧
    decode [0x38#8, 0x7F#8, 0x76#8] = .ok (.jrC 127, [0x76#8]) := ⟨rfl, rfl⟩

/-- OpcodeDecidesLength: the same opcode byte before different bytes. -/
theorem witness_opcode_decides_length : decode [0x3E#8, 0x05#8] = .ok (.ldAImm 0x05#8, []) ∧
    decode [0x3E#8, 0xFF#8, 0x00#8] = .ok (.ldAImm 0xFF#8, [0x00#8]) := ⟨rfl, rfl⟩

/-- SignedOffsetByteLaw: the last byte of the first clause and the first of the second (40_sequencer.md R86). -/
theorem witness_signed_offset : (0x7F#8).toNat ≤ 0x7F ∧ signed8 0x7F#8 = 127 ∧ 0x80 ≤ (0x80#8).toNat ∧
    signed8 0x80#8 = -128 ∧ signed8 0x00#8 = 0 ∧ signed8 0xFE#8 = -2 ∧ signed8 0xFF#8 = -1 := by decide

/-- CompositeReadAndWrite: a pair other than AF. -/
theorem witness_composite : Pair.hl ≠ Pair.af ∧ hostRead (.pair .hl) (hostAct (.writePair .hl 0x1FFFF) base) = 0xFFFF := by
  decide

/-- PairsAreViewsOfTheirHalves, clauses of `INC C` and `INC BC`. -/
theorem witness_pairs : ({ base with c := 0xFF#8 } : State).c = 0xFF#8 ∧
    ({ base with c := 0xFF#8 } : State).bc = 0x00FF#16 := by decide

/-- SetFlagWritesOneBit: a state whose F has all named bits set. -/
theorem witness_set_flag : ({ base with f := 0xF0#8 } : State).f &&& 0x0F#8 = 0x00#8 ∧
    ({ base with f := 0xF0#8 } : State).setFlag .zero false = { base with f := 0x70#8 } := by decide

/-- MemoryCellLaw: a written cell, another cell. -/
theorem witness_memory_cell : Mem.wf (base.writeByte 0xFFFF#16 0x5A#8).mem = true ∧
    ((base.writeByte 0xFFFF#16 0x5A#8).writeByte 0x0000#16 0x01#8).readByte 0xFFFF#16 = 0x5A#8 := by decide

/-- CanonicalMemoryIsDeterminedByItsReads: a canonical list with cells at both ends of the address space. -/
theorem witness_canonical : Mem.wf [(0, 0x01#8), (65535, 0xFF#8)] = true := by decide

/-- StepRunsDecodedInstruction, StepHasThreeOutcomes and NonJumpAdvancesPcByLength: `LD A,0x05` at 0x0100. -/
theorem witness_step_runs : (holding [0x3E#8, 0x05#8] base).halted = false ∧
    decode (bytesAtPc (holding [0x3E#8, 0x05#8] base)) = .ok (.ldAImm 0x05#8, [0x00#8]) ∧
    (Instr.ldAImm 0x05#8).shape.takenOffset (holding [0x3E#8, 0x05#8] base) = none := ⟨rfl, rfl, rfl⟩

/-- HaltedStepIsIdentity. -/
theorem witness_halted : ({ base with halted := true } : State).halted = true := rfl

/-- DispatchMissLeavesOnlyPcAdvanced: 0xFF at the top of the address space, and the reset state, whose memory is empty. -/
theorem witness_miss :
    ({ base with pc := 0xFFFF#16, mem := [(0xFFFF, 0xFF#8)] } : State).halted = false ∧
    opcodeTable (({ base with pc := 0xFFFF#16, mem := [(0xFFFF, 0xFF#8)] } : State).readByte 0xFFFF#16) = none ∧
    State.reset.halted = false ∧ opcodeTable (State.reset.readByte State.reset.pc) = none := ⟨rfl, rfl, rfl, rfl⟩

/-- RelativeTargetLaw: `JR NZ,-128` taken and not taken, and `JR 127`. -/
theorem witness_relative_target :
    decode (bytesAtPc (holding [0x20#8, 0x80#8] base)) = .ok (.jrNz (-128), [0x00#8]) ∧
    (Instr.jrNz (-128)).shape = .jrIf .nz (-128) ∧ (holding [0x20#8, 0x80#8] base).cond .nz = true ∧
    (holding [0x20#8, 0x80#8] { base with f := 0x80#8 }).cond .nz = false ∧
    decode (bytesAtPc (holding [0x18#8, 0x7F#8] base)) = .ok (.jr 127, [0x00#8]) ∧
    (Instr.jr 127).shape = .jr 127 := ⟨rfl, rfl, rfl, rfl, rfl, rfl⟩

/-- WordImmediateIsLittleEndianInTheStream: each of the four loads, over the top of the address space. -/
theorem witness_word_immediate : ∀ p ∈ [(Reg16.bc, 0x01#8), (.de, 0x11#8), (.hl, 0x21#8), (.sp, 0x31#8)],
    (holding [p.2, 0xCD#8, 0xAB#8] { base with pc := 0xFFFE#16 }).halted = false ∧
    (holding [p.2, 0xCD#8, 0xAB#8] { base with pc := 0xFFFE#16 }).readByte 0xFFFE#16 =
      0b00#2 ++ p.1.code ++ 0b0001#4 := by decide

/-- `LD (HL),B` with HL pointing at the byte after it, and `LD (HL),d8` aimed at its own immediate. -/
def storing : State := { base with b := 0x76#8, h := 0x01#8, l := 0x01#8 }

/-- StoreIsSeenByTheNextFetch, first clause: the stored byte is fetched next. -/
theorem witness_store_seen_next : ∃ t, Mem.wf (holding [0x70#8] storing).mem = true ∧
    (holding [0x70#8] storing).halted = false ∧
    decode (bytesAtPc (holding [0x70#8] storing)) = .ok (.ldIndHlB, [0x00#8, 0x00#8]) ∧
    step (holding [0x70#8] storing) = .next t ∧
    (Instr.ldIndHlB).shape.store (holding [0x70#8] storing) = some (t.pc, 0x76#8) :=
  ⟨_, rfl, rfl, rfl, rfl, rfl⟩

/-- StoreIsSeenByTheNextFetch, second clause. -/
theorem witness_store_own_immediate : Mem.wf (holding [0x36#8, 0xAB#8] storing).mem = true ∧
    (holding [0x36#8, 0xAB#8] storing).readByte 0x0100#16 = 0x36#8 ∧
    (holding [0x36#8, 0xAB#8] storing).hl = (holding [0x36#8, 0xAB#8] storing).pc + 1#16 := by decide

/-- StepKeepsInvariant, in both of its clauses: a step that executes, a step that misses. -/
theorem witness_invariant : Inv (holding [0x34#8] storing) ∧ (∃ t, step (holding [0x34#8] storing) = .next t) ∧
    Inv State.reset ∧ (∃ left, step State.reset = .fault (.illegalOpcode 0x00#8 0x0000#16 left)) :=
  ⟨⟨rfl, rfl⟩, ⟨_, rfl⟩, ⟨rfl, rfl⟩, ⟨_, rfl⟩⟩

/-- ReachableStatesMeetR29: a constructed CPU that has executed one `HALT`. -/
theorem witness_reachable : ∃ s, Reachable s true ∧ s.halted = true :=
  ⟨_, .executed (.construct Config.initDefault [(0, 0x76#8)]) rfl rfl, rfl⟩

/-- HaltedRunIsFinalAndSafe: `HALT` ends in one step. -/
theorem witness_halted_run : ∃ t, EndsIn 1 (holding [0x76#8] base) t := ⟨_, rfl, rfl⟩

/-- SideEffectsAreConfined: an instruction that is neither HALT nor STOP. -/
theorem witness_side_effects : Instr.incA ≠ .halt ∧ Instr.incA ≠ .stop := by decide

/-- OnlyDestinationRegistersChange: `ADD HL,SP` leaves B. -/
theorem witness_registers_frame : ∃ t, exec .addHlSp base = .next t ∧ Reg8.b ∉ Instr.addHlSp.shape.regsWritten :=
  ⟨_, rfl, by decide⟩

/-- OnlySpInstructionsAndJumpsChangeSpAndPc: `JR NZ` with Zero set leaves both. -/
theorem witness_sp_pc_frame : ∃ t, exec (.jrNz 5) { base with f := 0x80#8 } = .next t ∧
    (Instr.jrNz 5).shape.writesSp = false ∧ (Instr.jrNz 5).shape.takenOffset { base with f := 0x80#8 } = none :=
  ⟨_, rfl, rfl, rfl⟩

/-- OnlyListedFlagsChange: `INC B` keeps Carry, a load keeps all of F. -/
theorem witness_flags_frame : (∃ t, exec .incB base = .next t) ∧ Flag.carry ∉ Instr.incB.shape.flagsWritten ∧
    (∃ t, exec .ldBC base = .next t) ∧ Instr.ldBC.shape.flagsWritten = [] :=
  ⟨⟨_, rfl⟩, by decide, ⟨_, rfl⟩, rfl⟩

/-- OnlyListedFlagsAreRead: `ADD A,B` reads no flag, and writes Carry; `INC B` neither reads nor writes it. -/
theorem witness_flags_read : (∃ t, exec .addAB base = .next t) ∧ Flag.carry ∉ Instr.addAB.shape.flagsRead ∧
    Flag.carry ∈ Instr.addAB.shape.flagsWritten ∧ (∃ t, exec .incB base = .next t) ∧
    Flag.carry ∉ Instr.incB.shape.flagsRead :=
  ⟨⟨_, rfl⟩, by decide, by decide, ⟨_, rfl⟩, by decide⟩

/-- OnlyTheStoredByteChanges: a byte beside the stored one, and a form that stores nothing. -/
theorem witness_memory_frame : (∃ t, exec .ldIndHlB storing = .next t) ∧
    (∀ addr v, Instr.ldIndHlB.shape.store storing = some (addr, v) → 0x0102#16 ≠ addr) ∧
    (∃ t, exec .incB storing = .next t) ∧
    (∀ addr v, Instr.incB.shape.store storing = some (addr, v) → 0x0101#16 ≠ addr) := by
  refine ⟨⟨_, rfl⟩, ?_, ⟨_, rfl⟩, ?_⟩
  · intro addr v h
    obtain ⟨rfl, -⟩ := Prod.mk.inj (Option.some.inj h)
    decide
  · intro addr v h
    cases h

/-- StoredByteReadsBack: `LD (DE),A` at the top of the address space. -/
theorem witness_stored_byte : Mem.wf ({ base with d := 0xFF#8, e := 0xFF#8 } : State).mem = true ∧
    Instr.ldIndDeA.shape.store { base with d := 0xFF#8, e := 0xFF#8 } = some (0xFFFF#16, 0x00#8) := by decide

/-- IncDecAgreeWithAddSubOfOne: A of one state is B of the other. -/
theorem witness_inc_dec_agree : ({ base with a := 0xFF#8 } : State).a = ({ base with b := 0xFF#8 } : State).reg8 .b := rfl

/-- RelativeJumps: each condition both ways. -/
theorem witness_jump_conditions : ({ base with f := 0x80#8 } : State).f.getLsbD 7 = true ∧ base.f.getLsbD 7 = false ∧
    ({ base with f := 0x10#8 } : State).f.getLsbD 4 = true ∧ base.f.getLsbD 4 = false := by decide

/-- DaaCorrectsBcdAddition and DaaCorrectsBcdSubtraction: the largest digits with a carry, and a borrow. -/
theorem witness_bcd : ({ base with a := 0x99#8, b := 0x99#8 } : State).a = packedBcd 99 ∧
    ({ base with a := 0x99#8, b := 0x99#8 } : State).b = packedBcd 99 ∧
    ({ base with a := 0x00#8, b := 0x01#8 } : State).a = packedBcd 0 ∧
    ({ base with a := 0x00#8, b := 0x01#8 } : State).b = packedBcd 1 := by decide

/-- HostActsChangeOnlyWhatTheyName: a state that meets the invariant. -/
theorem witness_host : Inv { base with f := 0xF0#8 } := ⟨rfl, rfl⟩

/-- RegisterWriteWrapsAndIsLocal and HostActsChangeOnlyWhatTheyName: values wider than what they are written to. -/
theorem test_host_masks : hostAct (.writeReg8 .b 0x1A7) base = { base with b := 0xA7#8 } ∧
    hostAct (.writeF 0x1FF) base = { base with f := 0xF0#8 } ∧
    hostAct (.writePc 0x1FFFF) base = { base with pc := 0xFFFF#16 } ∧
    hostAct (.writeMem 0xFFFF#16 0x15A) base = { base with mem := [(0xFFFF, 0x5A#8)] } := by decide


end Sys2Proof.Tests
end

section
/-! Scope (00_scope.md R2, R3): every instruction completes, the one fault of a step is a dispatch miss, and the run-state booleans change by HALT and STOP alone. -/

namespace Sys2Proof.Machine

/-! ### When a step faults -/

/-- The fetch fails exactly on a dispatch miss, with the opcode byte and the state after its fetch (40_sequencer.md R82, R83). -/
theorem fetchInstr_eq_error_iff (s : State) (p : Byte × State) :
    fetchInstr s = .error p ↔ opcodeTable (s.readByte s.pc) = none ∧ p = fetchByte s := by
  show _ ↔ opcodeTable (fetchByte s).1 = none ∧ p = fetchByte s
  unfold fetchInstr
  cases h : opcodeTable (fetchByte s).1 with
  | none => simp [eq_comm]
  | some slot => simp

/-- The faults of a step: a running core's dispatch miss and no other (60_exceptions.md R201). -/
theorem step_eq_fault_iff (s : State) (x : Fault) :
    step s = .fault x ↔ s.halted = false ∧ opcodeTable (s.readByte s.pc) = none ∧
      x = .illegalOpcode (s.readByte s.pc) s.pc (s.setPc (s.pc + 1#16)) := by
  obtain ⟨hrun, hstep⟩ | ⟨-, i, s', hfetch, hstep⟩ | ⟨hrun, hfetch, hstep⟩ := step_cases s
  · simp [hstep, hrun]
  · have hmapped : opcodeTable (s.readByte s.pc) ≠ none := fun hnone => by
      have hmiss := (fetchInstr_eq_error_iff s _).2 ⟨hnone, rfl⟩
      rw [hfetch] at hmiss
      cases hmiss
    simp [hstep, hmapped]
  · have hnone := ((fetchInstr_eq_error_iff s _).1 hfetch).1
    simp [hstep, hrun, hnone, eq_comm]

/-- No step is refused. -/
theorem step_ne_refused (s : State) (r : Refusal) : step s ≠ .refused r := by
  obtain ⟨-, hstep⟩ | ⟨-, i, s', -, hstep⟩ | ⟨-, -, hstep⟩ := step_cases s <;> simp [hstep]

/-! ### The run-state booleans -/

@[simp] theorem aluApply_halted (op : AluOp) (v : Byte) (s : State) : (aluApply op v s).halted = s.halted := by
  rw [aluApply_eq]
@[simp] theorem aluApply_stopped (op : AluOp) (v : Byte) (s : State) : (aluApply op v s).stopped = s.stopped := by
  rw [aluApply_eq]
@[simp] theorem aluApply_ime (op : AluOp) (v : Byte) (s : State) : (aluApply op v s).ime = s.ime := by
  rw [aluApply_eq]

/-- What an instruction does to the run-state booleans (00_scope.md R3), by its form. -/
theorem effect_runState (sh : Shape) (s : State) :
    (effect sh s).ime = s.ime ∧
    (effect sh s).halted = (if sh = .halt then true else s.halted) ∧
    (effect sh s).stopped = (if sh = .stop then true else s.stopped) := by
  cases sh with
  | ldRegReg _ _ | ldRegInd _ | ldIndReg _ | ldRegImm _ _ | ldIndImm _ | ldPairImm _ _ =>
    simp [effect, ldRegReg, ldRegInd, ldIndReg, ldRegImm, ldIndImm, ldPairImm]
  | storeA _ | loadA _ => simp [effect, storeA, loadA]
  | aluReg _ _ | aluInd _ | aluImm _ _ => simp [effect, aluReg, aluInd, aluImm]
  | addHl _ => simp [effect, addHl]
  | incReg _ | incInd | decReg _ | decInd => simp [effect, incReg, incInd, decReg, decInd]
  | incPair _ | decPair _ => simp [effect, incPair, decPair]
  | rlca | rrca | rla | rra =>
    simp [effect, rotLeftCircular, rotRightCircular, rotLeftCarry, rotRightCarry, rotated]
  | jr _ => simp [effect, jumpRel]
  | jrIf cc off =>
    obtain ⟨-, h⟩ | ⟨-, h⟩ := jumpRelIf_cases cc off s <;> simp [effect, h, jumpRel]
  | daa | cpl | scf | ccf => simp [effect, decimalAdjust, complementA, setCarry, complementCarry]
  | halt | stop => simp [effect]

end Sys2Proof.Machine

namespace Sys2Proof

open Sys2Proof.Machine

/-- An instruction that is not the one of a form has another form. -/
theorem Instr.shape_ne {i : Instr} {sh : Shape} (h : i ≠ sh.instr) : i.shape ≠ sh := by
  rintro rfl
  exact h i.instr_shape.symm

/-- Settles O16, by the equation of `exec` and the faults of a step. -/
theorem stepFailsOnlyOnDispatchMiss : Obligations.StepFailsOnlyOnDispatchMiss := by
  refine ⟨fun i s => ⟨_, exec_eq_effect i s⟩, fun s opcode pcFetch => ?_, step_ne_refused⟩
  simp only [step_eq_fault_iff, Fault.illegalOpcode.injEq]
  constructor
  · rintro ⟨left, hrun, hnone, rfl, rfl, -⟩
    exact ⟨hrun, rfl, rfl, hnone⟩
  · rintro ⟨hrun, rfl, rfl, hnone⟩
    exact ⟨_, hrun, hnone, rfl, rfl, rfl⟩

/-- Settles O28, by what each form does to the run-state booleans. -/
theorem sideEffectsAreConfined : Obligations.SideEffectsAreConfined := by
  intro i s
  obtain ⟨hime, hhalted, hstopped⟩ := effect_runState i.shape s
  refine ⟨_, exec_eq_effect i s, hime, fun hne => ?_, fun hne => ?_⟩
  · rw [hhalted, if_neg (Instr.shape_ne (sh := .halt) hne)]
  · rw [hstopped, if_neg (Instr.shape_ne (sh := .stop) hne)]

end Sys2Proof
end

section
/-! The state, field by field (10_state.md): what every form of instruction does to each field, said once, with the frames of R11, R13, R16, R18 and R19. -/

namespace Sys2Proof.Machine

/-! ### The registers an operand can name -/

@[simp] theorem State.reg8_setFlags (s : State) (z n h c : Bool) (r : Reg8) :
    (s.setFlags z n h c).reg8 r = s.reg8 r := by
  simp [State.setFlags]

@[simp] theorem State.reg8_setFlagsZNH (s : State) (z n h : Bool) (r : Reg8) :
    (s.setFlagsZNH z n h).reg8 r = s.reg8 r := by
  simp [State.setFlagsZNH]

@[simp] theorem State.reg8_setFlagsNHC (s : State) (n h c : Bool) (r : Reg8) :
    (s.setFlagsNHC n h c).reg8 r = s.reg8 r := by
  simp [State.setFlagsNHC]

@[simp] theorem State.reg8_writeInd (s : State) (v : Byte) (r : Reg8) :
    (s.writeInd v).reg8 r = s.reg8 r :=
  s.reg8_writeByte s.hl v r

@[simp] theorem reg8_enterHalt (s : State) (r : Reg8) : (enterHalt s).reg8 r = s.reg8 r := by
  cases r <;> rfl

@[simp] theorem reg8_enterStop (s : State) (r : Reg8) : (enterStop s).reg8 r = s.reg8 r := by
  cases r <;> rfl

/-- A pair's write leaves every register but its halves. -/
theorem State.reg8_setReg16 (s : State) (rr : Reg16) (v : Word) {r : Reg8} (hr : r ∉ rr.halves) :
    (s.setReg16 rr v).reg8 r = s.reg8 r := by
  cases rr <;> cases r <;> simp_all [Reg16.halves, State.setReg16, State.reg8]

/-- A post-modification leaves every register but H and L, and those too for BC and DE. -/
theorem State.reg8_indPost (s : State) (m : IndMode) {r : Reg8} (hr : r ∉ m.postRegs) :
    (s.indPost m).reg8 r = s.reg8 r := by
  cases m with
  | bc | de => rfl
  | hlInc | hlDec => exact s.reg8_setReg16 .hl _ hr

/-- An 8-bit operation leaves every register but A, and A too if it is CP. -/
theorem reg8_aluApply (op : AluOp) (v : Byte) (s : State) {r : Reg8}
    (hr : r ∉ if op = .cp then [] else [Reg8.a]) : (aluApply op v s).reg8 r = s.reg8 r := by
  cases op <;> simp_all [aluApply, aluWritesA]

/-- The frame of the eight-bit registers (10_state.md R11): a form leaves every register outside its list. -/
theorem effect_reg8 (sh : Shape) (s : State) {r : Reg8} (hr : r ∉ sh.regsWritten) :
    (effect sh s).reg8 r = s.reg8 r := by
  cases sh with
  | ldRegReg _ _ | ldRegInd _ | ldRegImm _ _ =>
    simp_all [effect, ldRegReg, ldRegInd, ldRegImm, Shape.regsWritten]
  | ldIndReg _ | ldIndImm _ => simp [effect, ldIndReg, ldIndImm]
  | storeA _ => simp [effect, storeA, State.reg8_indPost _ _ hr]
  | loadA _ =>
    obtain ⟨ha, hpost⟩ := not_or.mp (mt List.mem_cons.mpr hr)
    simp [effect, loadA, State.reg8_indPost _ _ hpost, ha]
  | ldPairImm _ _ | incPair _ | decPair _ =>
    simp [effect, ldPairImm, incPair, decPair, State.reg8_setReg16 _ _ _ hr]
  | aluReg _ _ | aluInd _ | aluImm _ _ => simp [effect, aluReg, aluInd, aluImm, reg8_aluApply _ _ _ hr]
  | addHl _ =>
    simp only [effect, addHl, State.reg8_setClock]
    exact (State.reg8_setReg16 _ .hl _ hr).trans (State.reg8_setFlagsNHC ..)
  | incReg _ | decReg _ => simp_all [effect, incReg, decReg, Shape.regsWritten]
  | incInd | decInd => simp [effect, incInd, decInd]
  | rlca | rrca | rla | rra =>
    simp_all [effect, rotLeftCircular, rotRightCircular, rotLeftCarry, rotRightCarry, rotated, Shape.regsWritten]
  | daa | cpl => simp_all [effect, decimalAdjust, complementA, Shape.regsWritten]
  | jr _ => simp [effect, jumpRel]
  | jrIf cc off =>
    obtain ⟨-, h⟩ | ⟨-, h⟩ := jumpRelIf_cases cc off s <;> simp [effect, h, jumpRel]
  | scf | ccf => simp [effect, setCarry, complementCarry]
  | halt | stop => simp [effect]

/-! ### SP, PC and the byte store -/

/-- A pair's write leaves SP unless the pair is SP. -/
theorem State.setReg16_sp (s : State) (rr : Reg16) (v : Word) :
    (s.setReg16 rr v).sp = if rr = .sp then v else s.sp := by
  cases rr <;> rfl

@[simp] theorem aluApply_sp (op : AluOp) (v : Byte) (s : State) : (aluApply op v s).sp = s.sp := by
  rw [aluApply_eq]

@[simp] theorem aluApply_pc (op : AluOp) (v : Byte) (s : State) : (aluApply op v s).pc = s.pc := by
  rw [aluApply_eq]

@[simp] theorem aluApply_mem (op : AluOp) (v : Byte) (s : State) : (aluApply op v s).mem = s.mem := by
  rw [aluApply_eq]

/-- A conditional jump is taken exactly when its condition holds (46_jr.md R172 to R175). -/
theorem takenOffset_jrIf (cc : Cond) (off : Int) (s : State) :
    (Shape.jrIf cc off).takenOffset s = if s.cond cc then some off else none := by
  cases cc with
  | nz | z => cases h : s.flag .zero <;> simp [Shape.takenOffset, State.cond, h]
  | nc | c => cases h : s.flag .carry <;> simp [Shape.takenOffset, State.cond, h]

/-- Whether a jump is taken does not depend on PC. -/
theorem takenOffset_setPc (sh : Shape) (s : State) (v : Word) : sh.takenOffset (s.setPc v) = sh.takenOffset s := rfl

/-- What an instruction does to PC, to the store and to SP: PC moves by a taken jump alone (10_state.md R13), the store takes the one byte the form stores (20_memory.md R46, R53), and SP changes only by the forms that write it (R16). -/
theorem effect_pc_mem_sp (sh : Shape) (s : State) :
    (effect sh s).pc = ((sh.takenOffset s).map fun off => s.pc + BitVec.ofInt 16 off).getD s.pc ∧
    (effect sh s).mem = ((sh.store s).map fun p => Mem.write s.mem p.1.toNat p.2).getD s.mem ∧
    (sh.writesSp = false → (effect sh s).sp = s.sp) := by
  cases sh with
  | ldRegReg _ _ | ldRegInd _ | ldIndReg _ | ldRegImm _ _ | ldIndImm _ =>
    simp [effect, ldRegReg, ldRegInd, ldIndReg, ldRegImm, ldIndImm, Shape.takenOffset, Shape.store]
  | ldPairImm _ _ | incPair _ | decPair _ =>
    simp +contextual [effect, ldPairImm, incPair, decPair, Shape.takenOffset, Shape.store, Shape.writesSp,
      State.setReg16_sp]
  | storeA _ | loadA _ => simp [effect, storeA, loadA, Shape.takenOffset, Shape.store]
  | aluReg _ _ | aluInd _ | aluImm _ _ => simp [effect, aluReg, aluInd, aluImm, Shape.takenOffset, Shape.store]
  | addHl _ => simp [effect, addHl, Shape.takenOffset, Shape.store]
  | incReg _ | decReg _ => simp [effect, incReg, decReg, Shape.takenOffset, Shape.store]
  | incInd | decInd => simp [effect, incInd_eq, decInd_eq, Shape.takenOffset, Shape.store]
  | rlca | rrca | rla | rra =>
    simp [effect, rotLeftCircular, rotRightCircular, rotLeftCarry, rotRightCarry, rotated, Shape.takenOffset,
      Shape.store]
  | jr _ => simp [effect, jumpRel, Shape.takenOffset, Shape.store]
  | jrIf cc off =>
    rw [takenOffset_jrIf]
    obtain ⟨hc, h⟩ | ⟨hc, h⟩ := jumpRelIf_cases cc off s <;> simp [effect, h, hc, jumpRel, Shape.store]
  | daa | cpl | scf | ccf =>
    simp [effect, decimalAdjust, complementA, setCarry, complementCarry, Shape.takenOffset, Shape.store]
  | halt | stop => simp [effect, Shape.takenOffset, Shape.store]

theorem effect_pc_of_not_taken {sh : Shape} {s : State} (h : sh.takenOffset s = none) :
    (effect sh s).pc = s.pc := by
  obtain ⟨hpc, -, -⟩ := effect_pc_mem_sp sh s
  simp [hpc, h]

/-- Every instruction keeps the canonical form of the store. -/
theorem wf_effect (sh : Shape) (s : State) (hm : Mem.wf s.mem = true) : Mem.wf (effect sh s).mem = true := by
  obtain ⟨-, hmem, -⟩ := effect_pc_mem_sp sh s
  rw [hmem]
  cases sh.store s with
  | none => exact hm
  | some p => exact s.wf_writeByte p.1 p.2 hm

/-! ### ClockState -/

/-- The clock after an instruction is the table's entry (10_state.md R19; 70_reset_and_hazards.md R235). -/
theorem effect_clk (sh : Shape) (s : State) : (effect sh s).clk = sh.clockAfter s := by
  cases sh with
  | jrIf cc off =>
    rw [Shape.clockAfter, takenOffset_jrIf]
    obtain ⟨hc, h⟩ | ⟨hc, h⟩ := jumpRelIf_cases cc off s <;> simp [effect, h, hc]
  | _ => rfl

/-- Every entry of that table is one of the three legal clocks. -/
theorem legalClock_clockAfter (sh : Shape) (s : State) : LegalClock (sh.clockAfter s) := by
  cases sh with
  | jrIf cc off =>
    rw [Shape.clockAfter]
    split
    · exact .inr (.inr rfl)
    · exact .inr (.inl rfl)
  | ldRegReg _ _ | aluReg _ _ | incReg _ | decReg _ | rlca | rrca | rla | rra | daa | cpl | scf | ccf | halt | stop =>
    exact .inl rfl
  | ldIndImm _ | ldPairImm _ _ | incInd | decInd | jr _ => exact .inr (.inr rfl)
  | _ => exact .inr (.inl rfl)

/-- In a legal clock the T-states are four times the machine cycles (10_state.md R29). -/
theorem t_eq_of_legalClock {c : ClockState} (h : LegalClock c) : c.t = 4 * c.m := by
  obtain rfl | rfl | rfl := h <;> rfl

/-! ### F -/

/-- F as a result gives it. -/
def AluOut.flags (r : AluOut) : Byte := flagByte r.z r.n r.h r.c

/-- F after a form, from the state before it: the flags the form writes (10_state.md R18) from its operands, and the others kept. -/
def fAfter (sh : Shape) (s : State) : Byte :=
  match sh with
  | .aluReg op src => (alu8 op s.a (s.reg8 src) (s.flag .carry)).flags
  | .aluInd op => (alu8 op s.a s.readInd (s.flag .carry)).flags
  | .aluImm op d8 => (alu8 op s.a d8 (s.flag .carry)).flags
  | .addHl rr => flagByte (s.flag .zero) false (add16HalfCarry s.hl (s.reg16 rr)) (add16Carry s.hl (s.reg16 rr))
  | .incReg r => flagByte (decide (s.reg8 r + 1#8 = 0#8)) false (incHalfCarry (s.reg8 r)) (s.flag .carry)
  | .incInd => flagByte (decide (s.readInd + 1#8 = 0#8)) false (incHalfCarry s.readInd) (s.flag .carry)
  | .decReg r => flagByte (decide (s.reg8 r - 1#8 = 0#8)) true (decHalfCarry (s.reg8 r)) (s.flag .carry)
  | .decInd => flagByte (decide (s.readInd - 1#8 = 0#8)) true (decHalfCarry s.readInd) (s.flag .carry)
  | .rlca => flagByte false false false (s.a.getLsbD 7)
  | .rrca => flagByte false false false (s.a.getLsbD 0)
  | .rla => flagByte false false false (s.a.getLsbD 7)
  | .rra => flagByte false false false (s.a.getLsbD 0)
  | .daa => flagByte
      (decide (daaResult s.a (s.flag .subtract) (s.flag .halfCarry) (s.flag .carry) = 0#8))
      (s.flag .subtract) false (daaHigh s.a (s.flag .subtract) (s.flag .carry))
  | .cpl => flagByte (s.flag .zero) true true (s.flag .carry)
  | .scf => flagByte (s.flag .zero) false false true
  | .ccf => flagByte (s.flag .zero) false false (!s.flag .carry)
  | .ldRegReg _ _ | .ldRegInd _ | .ldRegImm _ _ | .ldIndReg _ | .ldIndImm _ | .storeA _ | .loadA _
  | .ldPairImm _ _ | .incPair _ | .decPair _ | .jr _ | .jrIf _ _ | .halt | .stop => s.f

theorem effect_f (sh : Shape) (s : State) : (effect sh s).f = fAfter sh s := by
  cases sh with
  | aluReg _ _ | aluInd _ | aluImm _ _ => exact aluApply_f ..
  | addHl _ => rw [effect, addHl_eq]; rfl
  | incReg _ => rw [effect, incReg_eq]; rfl
  | incInd => rw [effect, incInd_eq]; rfl
  | decReg _ => rw [effect, decReg_eq]; rfl
  | decInd => rw [effect, decInd_eq]; rfl
  | rlca | rrca | rla | rra => exact rotated_f ..
  | daa => exact decimalAdjust_f s
  | cpl => rw [effect, complementA_eq]; rfl
  | scf => rw [effect, setCarry_eq]; rfl
  | ccf => rw [effect, complementCarry_eq]; rfl
  | ldRegReg _ _ | ldRegInd _ | ldRegImm _ _ | ldIndReg _ | ldIndImm _ | ldPairImm _ _ | incPair _ | decPair _ =>
    simp [effect, ldRegReg, ldRegInd, ldIndReg, ldRegImm, ldIndImm, ldPairImm, incPair, decPair, fAfter]
  | storeA _ | loadA _ => simp [effect, storeA, loadA, fAfter]
  | jr _ => rfl
  | jrIf cc off =>
    obtain ⟨-, h⟩ | ⟨-, h⟩ := jumpRelIf_cases cc off s <;> simp [effect, h, jumpRel, fAfter]
  | halt | stop => rfl

/-- The four flags of a byte of four flags, by their names. -/
theorem getLsbD_flagByte (z n h c : Bool) (x : Flag) :
    (flagByte z n h c).getLsbD x.bit =
      if x = .zero then z else if x = .subtract then n else if x = .halfCarry then h else c := by
  cases x <;> simp only [Flag.bit, flagByte_zero, flagByte_subtract, flagByte_halfCarry, flagByte_carry,
    reduceCtorEq, if_true, if_false]

/-- F[3:0] stays zero: F is the byte of four flags, or what it was (10_state.md R12). -/
theorem fAfter_low (sh : Shape) {s : State} (hf : s.f &&& 0x0F#8 = 0x00#8) : fAfter sh s &&& 0x0F#8 = 0x00#8 := by
  cases sh with
  | ldRegReg _ _ | ldRegInd _ | ldRegImm _ _ | ldIndReg _ | ldIndImm _ | storeA _ | loadA _
  | ldPairImm _ _ | incPair _ | decPair _ | jr _ | jrIf _ _ | halt | stop => exact hf
  | _ => exact flagByte_low ..

theorem fAfter_of_none_written {sh : Shape} (s : State) (h : sh.flagsWritten = []) : fAfter sh s = s.f := by
  cases sh with
  | ldRegReg _ _ | ldRegInd _ | ldRegImm _ _ | ldIndReg _ | ldIndImm _ | storeA _ | loadA _
  | ldPairImm _ _ | incPair _ | decPair _ | jr _ | jrIf _ _ | halt | stop => rfl
  | _ => cases h

theorem effect_flag (sh : Shape) (s : State) (x : Flag) : (effect sh s).flag x = (fAfter sh s).getLsbD x.bit := by
  rw [State.flag, effect_f]

/-- A flag the form does not write keeps its value (10_state.md R18). -/
theorem fAfter_of_not_written {sh : Shape} (s : State) {x : Flag} (h : x ∉ sh.flagsWritten) :
    (fAfter sh s).getLsbD x.bit = s.flag x := by
  cases sh with
  | ldRegReg _ _ | ldRegInd _ | ldRegImm _ _ | ldIndReg _ | ldIndImm _ | storeA _ | loadA _
  | ldPairImm _ _ | incPair _ | decPair _ | jr _ | jrIf _ _ | halt | stop => rfl
  | _ => cases x <;> simp_all [Shape.flagsWritten, fAfter, getLsbD_flagByte]

end Sys2Proof.Machine
end

section
/-! What no instruction reads (10_state.md R18, R22, R23): `stopped`, `ime` and the flags outside the read-by list; and the invariant of R29 along a step. -/

namespace Sys2Proof.Machine

/-! ### What no instruction reads -/

/-- Another F and other values of `stopped` and `ime`. -/
def State.withUnread (s : State) (f : Byte) (stopped ime : Bool) : State :=
  { s with f := f, stopped := stopped, ime := ime }

@[simp] theorem State.reg8_withUnread (s : State) (f : Byte) (p q : Bool) (r : Reg8) :
    (s.withUnread f p q).reg8 r = s.reg8 r := by
  cases r <;> rfl

@[simp] theorem State.reg16_withUnread (s : State) (f : Byte) (p q : Bool) (rr : Reg16) :
    (s.withUnread f p q).reg16 rr = s.reg16 rr := by
  cases rr <;> rfl

@[simp] theorem State.withUnread_a (s : State) (f : Byte) (p q : Bool) : (s.withUnread f p q).a = s.a := rfl
@[simp] theorem State.withUnread_hl (s : State) (f : Byte) (p q : Bool) : (s.withUnread f p q).hl = s.hl := rfl
@[simp] theorem State.withUnread_readInd (s : State) (f : Byte) (p q : Bool) :
    (s.withUnread f p q).readInd = s.readInd := rfl

/-- A flag write is another F and nothing else. -/
theorem State.setFlag_eq_withUnread (s : State) (x : Flag) (v : Bool) :
    s.setFlag x v = s.withUnread (s.setFlag x v).f s.stopped s.ime :=
  s.setFlag_eq x v

/-- ADC and SBC alone read Carry (10_state.md R18; 42_alu8.md R120). -/
theorem alu8_congr_carry {op : AluOp} (a v : Byte) {c c' : Bool} (h : op = .adc ∨ op = .sbc → c = c') :
    alu8 op a v c = alu8 op a v c' := by
  cases op with
  | adc | sbc => simp [h]
  | _ => rfl

/-- The read-by list of the 8-bit forms, as the carry sees it. -/
theorem carry_of_read {op : AluOp} {s s' : State}
    (h : ∀ x ∈ (if op = .adc ∨ op = .sbc then [Flag.carry] else []), s'.flag x = s.flag x) :
    op = .adc ∨ op = .sbc → s'.flag .carry = s.flag .carry := by
  intro hop
  exact h .carry (by simp [hop])

section
variable {sh : Shape} {s : State} {f : Byte} {stopped ime : Bool}

/-- A flag that is written depends on no flag outside the read-by list. -/
theorem fAfter_withUnread_of_written
    (hread : ∀ x ∈ sh.flagsRead, (s.withUnread f stopped ime).flag x = s.flag x) {y : Flag}
    (hy : y ∈ sh.flagsWritten) :
    (fAfter sh (s.withUnread f stopped ime)).getLsbD y.bit = (fAfter sh s).getLsbD y.bit := by
  cases sh with
  | aluReg op _ | aluInd op | aluImm op _ => simp [fAfter, alu8_congr_carry _ _ (carry_of_read hread)]
  | addHl _ | incReg _ | decReg _ => cases y <;> simp_all [Shape.flagsWritten, fAfter, getLsbD_flagByte]
  | incInd | decInd =>
    simp only [fAfter, getLsbD_flagByte]
    cases y with
    | carry => simp [Shape.flagsWritten] at hy
    | zero | subtract | halfCarry => rfl
  | rlca | rrca | rla | rra => rfl
  | daa | cpl | scf | ccf => cases y <;> simp_all [Shape.flagsWritten, Shape.flagsRead, fAfter, getLsbD_flagByte]
  | _ => cases hy

theorem aluApply_withUnread (op : AluOp) (v : Byte)
    (hcarry : op = .adc ∨ op = .sbc → (s.withUnread f stopped ime).flag .carry = s.flag .carry) :
    aluApply op v (s.withUnread f stopped ime) =
      (aluApply op v s).withUnread (aluApply op v (s.withUnread f stopped ime)).f stopped ime := by
  rw [aluApply_eq, aluApply_eq op v s, alu8_congr_carry _ _ hcarry]
  rfl

theorem rotated_withUnread (result : Byte) (out : Bool) :
    rotated result out (s.withUnread f stopped ime) =
      (rotated result out s).withUnread (rotated result out (s.withUnread f stopped ime)).f stopped ime := by
  rw [rotated_eq, rotated_eq result out s]
  rfl

/-- No form reads `stopped`, `ime` or a flag outside its read-by list: another value of them changes them and F alone. -/
theorem effect_withUnread (hread : ∀ x ∈ sh.flagsRead, (s.withUnread f stopped ime).flag x = s.flag x) :
    effect sh (s.withUnread f stopped ime) =
      (effect sh s).withUnread (fAfter sh (s.withUnread f stopped ime)) (if sh = .stop then true else stopped) ime := by
  rw [← effect_f]
  cases sh with
  | ldRegReg dst _ | ldRegInd dst | ldRegImm dst _ => cases dst <;> rfl
  | ldPairImm rr _ | incPair rr | decPair rr => cases rr <;> rfl
  | storeA m | loadA m => cases m <;> rfl
  | aluReg op _ | aluInd op | aluImm op _ =>
    simp only [effect, aluReg, aluInd, aluImm, State.reg8_withUnread, State.withUnread_readInd]
    rw [aluApply_withUnread op _ (carry_of_read hread)]; rfl
  | addHl _ => simp only [effect, addHl_eq]; rfl
  | incReg r | decReg r =>
    simp only [effect, incReg_eq, decReg_eq]
    cases r <;> rfl
  | incInd | decInd => simp only [effect, incInd_eq, decInd_eq]; rfl
  | rlca | rrca =>
    simp only [effect, rotLeftCircular, rotRightCircular]
    rw [rotated_withUnread]; rfl
  | rla | rra =>
    have hc := hread .carry (by simp [Shape.flagsRead])
    simp only [effect, rotLeftCarry, rotRightCarry, hc]
    rw [rotated_withUnread]; rfl
  | daa =>
    have hn := hread .subtract (by simp [Shape.flagsRead])
    have hh := hread .halfCarry (by simp [Shape.flagsRead])
    have hc := hread .carry (by simp [Shape.flagsRead])
    simp only [effect]
    rw [decimalAdjust_eq, decimalAdjust_eq s, hn, hh, hc]; rfl
  | cpl | scf | ccf => simp only [effect, complementA_eq, setCarry_eq, complementCarry_eq]; rfl
  | jrIf cc off =>
    have hcond : (s.withUnread f stopped ime).cond cc = s.cond cc := by
      cases cc <;> simp_all [State.cond, Shape.flagsRead]
    simp only [effect, jumpRelIf, hcond]
    cases s.cond cc <;> rfl
  | ldIndReg src => cases src <;> rfl
  | ldIndImm _ | jr _ | halt | stop => rfl

end

/-- F after a form depends on neither `stopped` nor `ime`. -/
theorem fAfter_withUnread_self (sh : Shape) (s : State) (stopped ime : Bool) :
    fAfter sh (s.withUnread s.f stopped ime) = fAfter sh s := by
  cases sh <;> rfl

/-- No form reads `stopped` or `ime` (10_state.md R22, R23). -/
theorem effect_withUnread_self (sh : Shape) (s : State) (stopped ime : Bool) :
    effect sh (s.withUnread s.f stopped ime) =
      (effect sh s).withUnread (effect sh s).f (if sh = .stop then true else stopped) ime := by
  rw [effect_withUnread fun _ _ => rfl, fAfter_withUnread_self, effect_f]

/-! ### The fetch, and the invariant along a step -/

theorem step_of_fetchInstr {s s' : State} {i : Instr} (hrun : s.halted = false) (h : fetchInstr s = .ok (i, s')) :
    step s = .next (effect i.shape s') := by
  simp [step, hrun, h, exec_eq_effect]

/-- The fetch reads neither F, `stopped` nor `ime`. -/
theorem fetchInstr_withUnread {s s' : State} {i : Instr} (f : Byte) (stopped ime : Bool)
    (h : fetchInstr s = .ok (i, s')) :
    fetchInstr (s.withUnread f stopped ime) = .ok (i, s'.withUnread f stopped ime) := by
  have hbyte : (fetchByte (s.withUnread f stopped ime)).1 = (fetchByte s).1 := rfl
  unfold fetchInstr at h ⊢
  rw [hbyte]
  cases hslot : opcodeTable (fetchByte s).1 with
  | none => simp [hslot] at h
  | some slot =>
    simp only [hslot, Except.ok.injEq] at h ⊢
    cases slot <;> cases h <;> rfl

/-- Where the decoder reads an instruction at PC, the fetch answers it, with PC past its bytes (40_sequencer.md R82, R84, R85). -/
theorem fetchInstr_of_decode {s : State} {i : Instr} {rest : List Byte} (h : decode (bytesAtPc s) = .ok (i, rest)) :
    fetchInstr s = .ok (i, s.setPc (s.pc + BitVec.ofNat 16 i.length)) := by
  rw [decode_bytesAtPc] at h
  obtain hnone | ⟨sh, -, hsome⟩ := opcodeTable_cases (s.readByte s.pc)
  · simp [hnone] at h
  · simp only [hsome] at h
    obtain ⟨n, rest', hread, hlen, hstate⟩ := fetchOperands_read sh.slot (fetchByte s).2
      (s.readByte (s.pc + 1#16)) (s.readByte (s.pc + 2#16)) rfl
      (by simp [fetchByte, State.readByte, BitVec.add_assoc])
    obtain ⟨hi, rfl⟩ := Prod.mk.inj (Except.ok.inj (h.symm.trans hread))
    obtain ⟨-, -, hbytes, -⟩ := Shape.slot_read h
    have hn : i.length = 1 + n := by
      have hcount := congrArg List.length hbytes
      simp only [List.length_append, List.length_cons, List.length_nil] at hcount
      simp only [Instr.length]
      omega
    have hfetch : fetchInstr s = .ok (fetchOperands sh.slot (fetchByte s).2) := by
      unfold fetchInstr
      rw [show opcodeTable (fetchByte s).1 = some sh.slot from hsome]
    rw [hfetch, hn, BitVec.ofNat_add, ← BitVec.add_assoc]
    exact congrArg Except.ok (Prod.ext hi.symm hstate)

/-- What a step answers: the state itself if halted, else the effect of an instruction past its bytes. -/
theorem step_next {s t : State} (h : step s = .next t) :
    (s.halted = true ∧ t = s) ∨
    (s.halted = false ∧ ∃ i n, t = effect (Instr.shape i) (s.setPc (s.pc + BitVec.ofNat 16 n))) := by
  obtain ⟨hh, hstep⟩ | ⟨hrun, i, s', hfetch, hstep⟩ | ⟨-, -, hstep⟩ := step_cases s
  · rw [hstep] at h
    exact .inl ⟨hh, (Host.Outcome.next.inj h).symm⟩
  · obtain ⟨n, rfl⟩ := fetchInstr_ok hfetch
    rw [hstep] at h
    exact .inr ⟨hrun, i, n, (Host.Outcome.next.inj h).symm⟩
  · rw [hstep] at h
    cases h

theorem inv_effect (sh : Shape) {s : State} (h : Inv s) : Inv (effect sh s) := by
  obtain ⟨hf, hm⟩ := h
  exact ⟨by rw [effect_f]; exact fAfter_low sh hf, wf_effect sh s hm⟩

theorem inv_setPc {s : State} (h : Inv s) (v : Word) : Inv (s.setPc v) := h

/-- The state a fault leaves differs from the one before it in PC alone. -/
theorem step_fault {s left : State} {opcode : Byte} {pcFetch : Word}
    (h : step s = .fault (.illegalOpcode opcode pcFetch left)) : left = s.setPc (s.pc + 1#16) := by
  obtain ⟨-, -, heq⟩ := (step_eq_fault_iff s _).1 h
  exact (Fault.illegalOpcode.inj heq).2.2

end Sys2Proof.Machine
end

section
/-! Bytes, masks and composites as numbers (10_state.md R12, R14, R15), the host's acts (R24, R27), and the settled statements of 10_state.md. -/

namespace Sys2Proof.Machine

/-! ### Bytes, masks and composites -/

/-- A byte masked with 0xF0 (10_state.md R12), as a number. -/
theorem toNat_mask (v : Byte) : (v &&& 0xF0#8).toNat = v.toNat / 16 * 16 := by
  revert v; decide

theorem mask_low (v : Byte) : (v &&& 0xF0#8) &&& 0x0F#8 = 0x00#8 := by
  rw [mask_eq_flagByte]
  exact flagByte_low ..

theorem ofNat_mask_eq_nibble (v : Nat) : BitVec.ofNat 8 v &&& 0xF0#8 = BitVec.ofNat 8 (v / 16 % 16 * 16) := by
  apply BitVec.eq_of_toNat_eq
  rw [toNat_mask]
  simp only [BitVec.toNat_ofNat]
  omega

theorem ofNat_mask (v : Nat) : BitVec.ofNat 8 v &&& 0xF0#8 = BitVec.ofNat 8 (v / 16 * 16) := by
  apply BitVec.eq_of_toNat_eq
  rw [toNat_mask]
  simp only [BitVec.toNat_ofNat]
  omega

/-- A composite is `(high << 8) | low` (10_state.md R14), as a number. -/
theorem toNat_packPair (hi lo : Byte) : (packPair hi lo).toNat = 256 * hi.toNat + lo.toNat := by
  rw [packPair, BitVec.toNat_append, ← Nat.shiftLeft_add_eq_or_of_lt lo.isLt, Nat.shiftLeft_eq]
  omega

theorem hiByte_ofNat (v : Nat) : hiByte (BitVec.ofNat 16 v) = BitVec.ofNat 8 (v / 256) := by
  apply BitVec.eq_of_toNat_eq
  simp only [hiByte, BitVec.extractLsb'_toNat, BitVec.toNat_ofNat, Nat.shiftRight_eq_div_pow]
  omega

theorem loByte_ofNat (v : Nat) : loByte (BitVec.ofNat 16 v) = BitVec.ofNat 8 v := by
  apply BitVec.eq_of_toNat_eq
  simp only [loByte, BitVec.extractLsb'_toNat, BitVec.toNat_ofNat, Nat.shiftRight_zero]
  omega

theorem mask_loByte (v : Word) : loByte v &&& 0xF0#8 = v.extractLsb' 4 4 ++ 0b0000#4 := by
  apply BitVec.eq_of_toNat_eq
  rw [toNat_mask, BitVec.toNat_append, ← Nat.shiftLeft_add_eq_or_of_lt (by decide), Nat.shiftLeft_eq]
  simp only [loByte, BitVec.extractLsb'_toNat, Nat.shiftRight_eq_div_pow, BitVec.toNat_ofNat]
  omega

/-- Where F[3:0] is zero, a flag write is R17's formula to the letter (10_state.md R17). -/
theorem State.f_setFlag_of_low {s : State} (hf : s.f &&& 0x0F#8 = 0x00#8) (x : Flag) (v : Bool) :
    (s.setFlag x v).f = if v then s.f ||| 1#8 <<< x.bit else s.f &&& ~~~(1#8 <<< x.bit) := by
  have key : ∀ (w : Byte) (x : Flag), w &&& 0x0F#8 = 0x00#8 →
      (w ||| 1#8 <<< x.bit) &&& 0xF0#8 = w ||| 1#8 <<< x.bit ∧
        (w &&& ~~~(1#8 <<< x.bit)) &&& 0xF0#8 = w &&& ~~~(1#8 <<< x.bit) := by
    intro w x
    revert w
    cases x <;> decide
  obtain ⟨hset, hclear⟩ := key s.f x hf
  cases v with
  | true => exact hset
  | false => exact hclear

/-! ### The host's acts -/

theorem hostAct_clk (op : HostOp) (s : State) : (hostAct op s).clk = s.clk := by
  cases op with
  | writeReg8 r _ => exact s.setReg8_clk r _
  | writePair p _ => cases p <;> rfl
  | _ => rfl

/-- Every act of the host keeps the invariant (10_state.md R29). -/
theorem inv_hostAct (op : HostOp) {s : State} (h : Inv s) : Inv (hostAct op s) := by
  obtain ⟨hf, hm⟩ := h
  cases op with
  | writeReg8 r _ => cases r <;> exact ⟨hf, hm⟩
  | writeF _ => exact ⟨mask_low _, hm⟩
  | writePair p _ =>
    cases p with
    | af => exact ⟨mask_low _, hm⟩
    | bc | de | hl => exact ⟨hf, hm⟩
  | writeMem addr _ => exact ⟨hf, s.wf_writeByte addr _ hm⟩
  | writePc _ | writeSp _ | writeHalted _ | writeStopped _ | writeIme _ | enableInterrupts | disableInterrupts =>
    exact ⟨hf, hm⟩

end Sys2Proof.Machine

namespace Sys2Proof

open Sys2Proof.Machine

/-- Settles O25, by the invariant of the effect of every form: F is masked or kept, the store takes one byte at most. -/
theorem stepKeepsInvariant : Obligations.StepKeepsInvariant := by
  intro s hs
  refine ⟨fun t h => ?_, fun opcode pcFetch left h => ?_⟩
  · obtain ⟨-, rfl⟩ | ⟨-, i, n, rfl⟩ := step_next h
    · exact hs
    · exact inv_effect _ (inv_setPc hs _)
  · rw [step_fault h]
    exact inv_setPc hs _

/-- Settles O7: a wide value is wrapped by the width of the register, and F takes its high nibble. -/
theorem registerWriteWrapsAndIsLocal : Obligations.RegisterWriteWrapsAndIsLocal := by
  intro s v
  have hwrap : BitVec.ofNat 8 v = BitVec.ofNat 8 (v % 256) := BitVec.eq_of_toNat_eq (by simp)
  rw [← hwrap, ← ofNat_mask_eq_nibble]
  refine ⟨rfl, rfl, rfl, rfl, rfl, rfl, rfl, rfl, fun r => ?_, ?_⟩
  · simp [hostRead, hostAct]
  · simp only [hostRead, hostAct, State.setF_f, ofNat_mask_eq_nibble, BitVec.toNat_ofNat]
    omega

/-- Settles O8, by the halves of a wide value as numbers. -/
theorem compositeReadAndWrite : Obligations.CompositeReadAndWrite := by
  intro s v
  have hback : packPair (hiByte (BitVec.ofNat 16 v)) (loByte (BitVec.ofNat 16 v)) = BitVec.ofNat 16 v :=
    immWord_halves _
  rw [← hiByte_ofNat, ← loByte_ofNat, ← ofNat_mask, ← loByte_ofNat]
  refine ⟨toNat_packPair .., toNat_packPair .., toNat_packPair .., toNat_packPair .., rfl, rfl, rfl, rfl,
    fun p hp => ?_, ?_⟩
  · have hpair : (hostAct (.writePair p v) s).pair p = BitVec.ofNat 16 v := by
      cases p with
      | bc | de | hl => exact hback
      | af => exact absurd rfl hp
    simp [hpair]
  · have haf : (hostAct (.writePair .af v) s).pair .af =
        packPair (hiByte (BitVec.ofNat 16 v)) (loByte (BitVec.ofNat 16 v) &&& 0xF0#8) := rfl
    rw [haf, toNat_packPair, toNat_mask, hiByte_ofNat, loByte_ofNat]
    simp only [BitVec.toNat_ofNat]
    omega

/-- Settles O9: every view is the pack of its halves, and a pack is a number of two bytes. -/
theorem pairsAreViewsOfTheirHalves : Obligations.PairsAreViewsOfTheirHalves := by
  intro s x v
  refine ⟨⟨toNat_packPair .., toNat_packPair .., toNat_packPair .., toNat_packPair ..⟩,
    toNat_packPair .., toNat_packPair .., toNat_packPair .., toNat_packPair .., toNat_packPair ..,
    toNat_packPair .., toNat_packPair .., ⟨toNat_packPair .., rfl⟩, rfl, rfl, rfl, rfl, rfl, rfl, rfl,
    mask_loByte v, fun hc => ⟨_, exec_instr (.incReg .c) s, ?_, ?_⟩, fun hbc => ⟨_, exec_instr (.incPair .bc) s, ?_, ?_⟩⟩
  · show (incReg .c s).c = 0x00#8
    rw [incReg_eq]
    show s.c + 1#8 = 0x00#8
    rw [hc]; rfl
  · show (incReg .c s).b = s.b
    rw [incReg_eq]; rfl
  · show hiByte (s.bc + 1#16) = 0x01#8
    rw [hbc]; rfl
  · show loByte (s.bc + 1#16) = 0x00#8
    rw [hbc]; rfl

/-- Settles O10, by the flags and the fields after a flag write. -/
theorem setFlagWritesOneBit : Obligations.SetFlagWritesOneBit := by
  intro s x v
  exact ⟨fun y => s.flag_setFlag x y v, s.setFlag_eq x v, fun hf => State.f_setFlag_of_low hf x v⟩

/-- Settles O18: the fetch leaves PC past the bytes the decoder reads, and a form that does not jump keeps it. -/
theorem nonJumpAdvancesPcByLength : Obligations.NonJumpAdvancesPcByLength := by
  intro s i rest hrun hdecode hjump
  refine ⟨_, step_of_fetchInstr hrun (fetchInstr_of_decode hdecode), ?_⟩
  rw [effect_pc_of_not_taken (hjump ▸ takenOffset_setPc ..), State.setPc_pc, BitVec.toNat_add, BitVec.toNat_ofNat,
    Nat.add_mod_mod]

/-- Settles O22: neither the fetch nor the effect of a form reads the two fields. -/
theorem stoppedAndImeGateNothing : Obligations.StoppedAndImeGateNothing := by
  intro s stopped ime
  obtain ⟨hhalted, hstep⟩ | ⟨hrun, i, s', hfetch, hstep⟩ | ⟨hrun, hfetch, hstep⟩ := step_cases s
  · simp only [hstep]
    exact ⟨s.withUnread s.f stopped ime, by simp [step, State.withUnread, hhalted], rfl, rfl⟩
  · obtain ⟨n, rfl⟩ := fetchInstr_ok hfetch
    generalize s.pc + BitVec.ofNat 16 n = v at hfetch hstep
    have hime : (effect i.shape (s.setPc v)).ime = s.ime := (effect_runState i.shape (s.setPc v)).1
    simp only [hstep]
    refine ⟨_, step_of_fetchInstr hrun (fetchInstr_withUnread (s.setPc v).f stopped ime hfetch), ?_⟩
    rw [effect_withUnread_self, ← hime]
    exact ⟨rfl, rfl⟩
  · simp only [hstep]
    have hnone := ((fetchInstr_eq_error_iff s _).1 hfetch).1
    exact (step_eq_fault_iff _ _).2 ⟨hrun, hnone, rfl⟩

/-- Settles O26, by induction on how the state was reached. -/
theorem reachableStatesMeetR29 : Obligations.ReachableStatesMeetR29 := by
  have hlegal : ∀ (s : State) (ran : Bool), Reachable s ran → Inv s ∧ (ran = true → LegalClock s.clk) := by
    intro s ran h
    induction h with
    | construct init initMem => exact ⟨⟨mask_low _, wf_memOf initMem⟩, nofun⟩
    | halted _ _ ih => exact ih
    | executed _ hrun hstep ih =>
      obtain ⟨hh, -⟩ | ⟨-, i, n, rfl⟩ := step_next hstep
      · simp [hrun] at hh
      · exact ⟨inv_effect _ (inv_setPc ih.1 _), fun _ => effect_clk i.shape _ ▸ legalClock_clockAfter ..⟩
    | missed _ hstep ih => rw [step_fault hstep]; exact ⟨inv_setPc ih.1 _, ih.2⟩
    | host op _ ih => exact ⟨inv_hostAct op ih.1, (hostAct_clk op _).symm ▸ ih.2⟩
  intro s ran h
  obtain ⟨hinv, hclk⟩ := hlegal s ran h
  exact ⟨hinv, fun hran => ⟨hclk hran, t_eq_of_legalClock (hclk hran)⟩⟩

/-- Settles O29, by the frame of every form's effect. -/
theorem onlyDestinationRegistersChange : Obligations.OnlyDestinationRegistersChange := by
  intro i s t r h hr
  rw [exec_next h]
  exact effect_reg8 i.shape s hr

/-- Settles O30, by what every form does to PC and SP. -/
theorem onlySpInstructionsAndJumpsChangeSpAndPc : Obligations.OnlySpInstructionsAndJumpsChangeSpAndPc := by
  intro i s t h
  obtain ⟨-, -, hsp⟩ := effect_pc_mem_sp i.shape s
  rw [exec_next h]
  exact ⟨hsp, effect_pc_of_not_taken⟩

/-- Settles O31, by F after every form. -/
theorem onlyListedFlagsChange : Obligations.OnlyListedFlagsChange := by
  intro i s t h
  rw [exec_next h, effect_f]
  exact ⟨fun x hx => (effect_flag ..).trans (fAfter_of_not_written s hx), fAfter_of_none_written s⟩

/-- Settles O32: a flag that is written depends on the flags read alone, any other is kept. -/
theorem onlyListedFlagsAreRead : Obligations.OnlyListedFlagsAreRead := by
  intro i s t x v h hx
  have hread : ∀ y ∈ i.shape.flagsRead, (s.setFlag x v).flag y = s.flag y := fun y hy => by
    have hyx : y ≠ x := fun hyx => hx (hyx ▸ hy)
    rw [State.flag_setFlag, if_neg hyx]
  refine ⟨_, exec_eq_effect i _, ?_, fun y hy => ?_⟩
  · rw [exec_next h, s.setFlag_eq_withUnread, effect_withUnread (s.setFlag_eq_withUnread x v ▸ hread)]
    obtain ⟨hime, -, hstopped⟩ := effect_runState i.shape s
    rw [← hstopped, ← hime]
    rfl
  · rw [exec_next h, effect_flag, effect_flag]
    by_cases hw : y ∈ i.shape.flagsWritten
    · rw [s.setFlag_eq_withUnread, fAfter_withUnread_of_written (s.setFlag_eq_withUnread x v ▸ hread) hw]
    · have hyx : y ≠ x := by
        rintro rfl
        exact hy.elim (· rfl) hw
      rw [fAfter_of_not_written _ hw, fAfter_of_not_written _ hw, State.flag_setFlag, if_neg hyx]

/-- Settles O35: the clock after every form is the table's entry, and every entry is legal. -/
theorem clockHoldsTheInstructionsCost : Obligations.ClockHoldsTheInstructionsCost := by
  intro i s
  have hlegal := legalClock_clockAfter i.shape s
  rw [← effect_clk] at hlegal
  exact ⟨_, exec_eq_effect i s, effect_clk i.shape s, hlegal, t_eq_of_legalClock hlegal⟩

/-- Settles O23, by evaluation of the one state it is about. -/
theorem resetStateValues : Obligations.ResetStateValues :=
  ⟨rfl, rfl, rfl, fun r => by cases r <;> rfl, rfl, rfl, rfl, rfl, rfl, fun _ => rfl⟩

/-- Settles O24: F is masked, and `memOf` gives the canonical form. -/
theorem constructionMeetsInvariant : Obligations.ConstructionMeetsInvariant :=
  ⟨⟨rfl, wf_reset⟩, fun _ initMem => ⟨⟨mask_low _, wf_memOf initMem⟩, rfl, rfl⟩⟩

/-- Settles O58, by the wrapping of wide values and the invariant of every act. -/
theorem hostActsChangeOnlyWhatTheyName : Obligations.HostActsChangeOnlyWhatTheyName := by
  intro s v n r p a op
  have h8 : BitVec.ofNat 8 (n % 256) = BitVec.ofNat 8 n := BitVec.eq_of_toNat_eq (by simp)
  have h16 : BitVec.ofNat 16 (n % 65536) = BitVec.ofNat 16 n := BitVec.eq_of_toNat_eq (by simp)
  rw [h8, h16, ← ofNat_mask_eq_nibble]
  exact ⟨rfl, rfl, rfl, rfl, rfl, rfl, rfl, rfl, rfl, rfl, rfl, hostAct_clk op s, inv_hostAct op⟩

end Sys2Proof
end

section
/-! The byte store as cells (20_memory.md R42, R43, R46, R49, R53): a read after a write, what an instruction leaves in memory, what the fetch reads there, and the settled statements of 20_memory.md. -/

namespace Sys2Proof.Machine

/-! ### The cell law -/

/-- A canonical list is bounded below by its own first address. -/
theorem Mem.wfFrom_head {lo k : Nat} {v : Byte} {rest : List Host.Cell}
    (hm : Mem.wfFrom lo ((k, v) :: rest) = true) : Mem.wfFrom k ((k, v) :: rest) = true :=
  Mem.wfFrom_cons.2 ⟨le_rfl, (Mem.wfFrom_cons.1 hm).2⟩

/-- A cell holds what was last written to it: the fill byte is written by removing the entry, and a canonical list has no other entry at that address. -/
theorem Mem.read_write_same {m : List Host.Cell} {a : Nat} (v : Byte) :
    ∀ {lo : Nat}, Mem.wfFrom lo m = true → Mem.read (Mem.write m a v) a = v := by
  induction m with
  | nil => intro lo _; by_cases hv : v = Config.memFill <;> simp [Mem.write, Mem.read, hv]
  | cons cell rest ih =>
    obtain ⟨k, w⟩ := cell
    intro lo hm
    obtain ⟨-, -, -, hrest⟩ := Mem.wfFrom_cons.1 hm
    rcases Nat.lt_trichotomy a k with h | rfl | h
    · by_cases hv : v = Config.memFill
      · simpa [Mem.write, h, hv] using Mem.read_below (Mem.wfFrom_head hm) h
      · simp [Mem.write, Mem.read, h, hv]
    · by_cases hv : v = Config.memFill
      · simpa [Mem.write, hv] using Mem.read_below hrest a.lt_succ_self
      · simp [Mem.write, Mem.read, hv]
    · simpa [Mem.write, Mem.read, h.not_gt, h.ne'] using ih hrest

theorem State.readByte_writeByte_of_ne (s : State) {a b : Word} (v : Byte) (h : b ≠ a) :
    (s.writeByte a v).readByte b = s.readByte b :=
  Mem.read_write_other v fun hab => h (BitVec.eq_of_toNat_eq hab)

/-- The cell law (20_memory.md R42). -/
theorem State.readByte_writeByte {s : State} (hm : Mem.wf s.mem = true) (a b : Word) (v : Byte) :
    (s.writeByte a v).readByte b = if b = a then v else s.readByte b := by
  split
  next h => rw [h]; exact Mem.read_write_same v hm
  next h => exact s.readByte_writeByte_of_ne v h

/-- A byte written over itself changes no byte. -/
theorem State.readByte_writeByte_self {s : State} (hm : Mem.wf s.mem = true) (a b : Word) :
    (s.writeByte a (s.readByte a)).readByte b = s.readByte b := by
  rw [State.readByte_writeByte hm]
  split
  next h => rw [h]
  next => rfl

/-! ### The canonical form is determined by its reads -/

theorem Mem.read_head (k : Nat) (v : Byte) (rest : List Host.Cell) : Mem.read ((k, v) :: rest) k = v :=
  if_pos rfl

theorem Mem.read_tail {k a : Nat} (v : Byte) (rest : List Host.Cell) (h : a ≠ k) :
    Mem.read ((k, v) :: rest) a = Mem.read rest a :=
  if_neg h

/-- The first address of a canonical list is at most every address that does not read as the fill byte. -/
theorem Mem.head_le_of_read_ne {lo k a : Nat} {v : Byte} {rest : List Host.Cell}
    (hm : Mem.wfFrom lo ((k, v) :: rest) = true) (h : Mem.read ((k, v) :: rest) a ≠ Config.memFill) : k ≤ a :=
  not_lt.1 fun hlt => h (Mem.read_below (Mem.wfFrom_head hm) hlt)

/-- Two canonical lists with equal bytes are equal: they have the same first address, where both hold the same byte, and their tails read the same. -/
theorem Mem.eq_of_read_eq {m : List Host.Cell} : ∀ {lo : Nat} {m' : List Host.Cell}, Mem.wfFrom lo m = true →
    Mem.wfFrom lo m' = true → (∀ a < Config.memSize, Mem.read m a = Mem.read m' a) → m = m' := by
  induction m with
  | nil =>
    intro lo m' _ hm' hread
    cases m' with
    | nil => rfl
    | cons cell' rest' =>
      obtain ⟨k', v'⟩ := cell'
      obtain ⟨-, hk', hv', -⟩ := Mem.wfFrom_cons.1 hm'
      exact absurd ((Mem.read_head k' v' rest').symm.trans (hread k' hk').symm) hv'
  | cons cell rest ih =>
    obtain ⟨k, v⟩ := cell
    intro lo m' hm hm' hread
    obtain ⟨-, hk, hv, hrest⟩ := Mem.wfFrom_cons.1 hm
    have hhead := hread k hk
    rw [Mem.read_head] at hhead
    cases m' with
    | nil => exact absurd hhead hv
    | cons cell' rest' =>
      obtain ⟨k', v'⟩ := cell'
      obtain ⟨-, hk', hv', hrest'⟩ := Mem.wfFrom_cons.1 hm'
      have hle : k' ≤ k := Mem.head_le_of_read_ne hm' (hhead ▸ hv)
      have hge : k ≤ k' := Mem.head_le_of_read_ne hm (by rwa [hread k' hk', Mem.read_head])
      obtain rfl := le_antisymm hge hle
      rw [Mem.read_head] at hhead
      have htail : ∀ a < Config.memSize, Mem.read rest a = Mem.read rest' a := fun a ha => by
        by_cases hak : a = k
        · subst hak
          rw [Mem.read_below hrest a.lt_succ_self, Mem.read_below hrest' a.lt_succ_self]
        · rw [← Mem.read_tail v rest hak, ← Mem.read_tail v' rest' hak, hread a ha]
      rw [hhead, ih hrest hrest' htail]

/-! ### What an instruction leaves in memory -/

/-- A read sees the store alone. -/
theorem State.readByte_congr {s t : State} (h : t.mem = s.mem) (a : Word) : t.readByte a = s.readByte a := by
  rw [State.readByte, h, State.readByte]

/-- A form that stores leaves the memory of that one write (20_memory.md R46, R53). -/
theorem readByte_effect_of_store {sh : Shape} {s : State} {addr : Word} {v : Byte}
    (h : sh.store s = some (addr, v)) (a : Word) : (effect sh s).readByte a = (s.writeByte addr v).readByte a := by
  obtain ⟨-, hmem, -⟩ := effect_pc_mem_sp sh s
  exact State.readByte_congr (by simp [hmem, h]) a

theorem readByte_effect_of_not_store {sh : Shape} {s : State} (h : sh.store s = none) (a : Word) :
    (effect sh s).readByte a = s.readByte a := by
  obtain ⟨-, hmem, -⟩ := effect_pc_mem_sp sh s
  exact State.readByte_congr (by simp [hmem, h]) a

theorem readByte_effect_stored {sh : Shape} {s : State} {addr : Word} {v : Byte} (hm : Mem.wf s.mem = true)
    (h : sh.store s = some (addr, v)) : (effect sh s).readByte addr = v := by
  rw [readByte_effect_of_store h, State.readByte_writeByte hm, if_pos rfl]

/-- What a form stores, and where, does not depend on PC. -/
theorem store_setPc (sh : Shape) (s : State) (v : Word) : sh.store (s.setPc v) = sh.store s := by
  cases sh <;> rfl

/-! ### The step of an opcode byte -/

/-- The fetch at a form's opcode byte takes the operand bytes of the form's slot. -/
theorem fetchInstr_of_opcode {s : State} {sh : Shape} (h : s.readByte s.pc = sh.opcode) :
    fetchInstr s = .ok (fetchOperands sh.slot (fetchByte s).2) := by
  have hslot : opcodeTable (fetchByte s).1 = some sh.slot := (congrArg opcodeTable h).trans (opcodeTable_opcode sh)
  unfold fetchInstr
  rw [hslot]

theorem step_of_fetchInstr_form {s s' : State} {sh : Shape} (hrun : s.halted = false)
    (h : fetchInstr s = .ok (sh.instr, s')) : step s = .next (effect sh s') := by
  rw [step_of_fetchInstr hrun h, sh.shape_instr]

/-- `LD rr,d16` runs with the two bytes after its opcode as its immediate, low byte first (20_memory.md R43; 40_sequencer.md R85). -/
theorem step_ldPairImm {s : State} (rr : Reg16) (hrun : s.halted = false)
    (hop : s.readByte s.pc = 0b00#2 ++ rr.code ++ 0b0001#4) :
    step s = .next (effect (.ldPairImm rr (immWord (s.readByte (s.pc + 1#16)) (s.readByte (s.pc + 2#16))))
      (s.setPc (s.pc + 3#16))) := by
  refine step_of_fetchInstr_form hrun ((fetchInstr_of_opcode (sh := .ldPairImm rr 0#16) hop).trans ?_)
  simp only [Shape.slot, fetchOperands, fetchWord, fetchByte, State.setPc_pc, BitVec.add_assoc]
  rfl

/-- `LD (HL),d8` runs with the byte after its opcode as its immediate. -/
theorem step_ldIndImm {s : State} (hrun : s.halted = false) (hop : s.readByte s.pc = 0x36#8) :
    step s = .next (effect (.ldIndImm (s.readByte (s.pc + 1#16))) (s.setPc (s.pc + 2#16))) := by
  refine step_of_fetchInstr_form hrun ((fetchInstr_of_opcode (sh := .ldIndImm 0#8) hop).trans ?_)
  simp only [Shape.slot, fetchOperands, fetchByte, State.setPc_pc, BitVec.add_assoc]
  rfl

/-! ### A pair after its write -/

theorem State.reg16_setReg16_same (s : State) (rr : Reg16) (v : Word) : (s.setReg16 rr v).reg16 rr = v := by
  cases rr with
  | bc | de | hl => exact immWord_halves v
  | sp => rfl

@[simp] theorem State.reg16_setClock (s : State) (cost : Nat) (rr : Reg16) :
    (s.setClock cost).reg16 rr = s.reg16 rr := by
  cases rr <;> rfl

end Sys2Proof.Machine

namespace Sys2Proof

open Sys2Proof.Machine

/-- Settles O11, by the cell law on canonical lists. -/
theorem memoryCellLaw : Obligations.MemoryCellLaw := by
  intro s a b v hm
  exact ⟨State.readByte_writeByte hm a b v, rfl⟩

/-- Settles O12, by induction on the two lists. -/
theorem canonicalMemoryIsDeterminedByItsReads : Obligations.CanonicalMemoryIsDeterminedByItsReads :=
  fun _ _ hm hm' hread => Mem.eq_of_read_eq hm hm' hread

/-- Settles O20: the fetch packs the two bytes after the opcode, and the load writes the pack. -/
theorem wordImmediateIsLittleEndianInTheStream : Obligations.WordImmediateIsLittleEndianInTheStream := by
  intro s rr hrun hop
  refine ⟨_, step_ldPairImm rr hrun hop, ?_, ?_, rfl⟩
  · rw [effect, ldPairImm, State.reg16_setClock, State.reg16_setReg16_same]
    exact (toNat_packPair ..).trans (Nat.add_comm ..)
  · rw [effect_pc_of_not_taken rfl, State.setPc_pc, BitVec.toNat_add]
    rfl

/-- Settles O33, by the one write of a form that stores and the memory of one that does not. -/
theorem onlyTheStoredByteChanges : Obligations.OnlyTheStoredByteChanges := by
  intro i s t a h hne
  rw [exec_next h]
  cases hstore : i.shape.store s with
  | none => exact readByte_effect_of_not_store hstore a
  | some p =>
    rw [readByte_effect_of_store hstore, s.readByte_writeByte_of_ne _ (hne _ _ hstore)]

/-- Settles O34, by the cell law at the stored address. -/
theorem storedByteReadsBack : Obligations.StoredByteReadsBack := by
  intro i s addr v hm hstore
  exact ⟨_, exec_eq_effect i s, readByte_effect_stored hm hstore⟩

/-- Settles O21: the fetch reads memory through the cell law, and the immediate aimed at itself is written back over itself. -/
theorem storeIsSeenByTheNextFetch : Obligations.StoreIsSeenByTheNextFetch := by
  constructor
  · intro s t i rest v hm hrun hdecode hstep hstore
    rw [step_of_fetchInstr hrun (fetchInstr_of_decode hdecode)] at hstep
    obtain rfl := Host.Outcome.next.inj hstep
    exact readByte_effect_stored hm ((store_setPc ..).trans hstore)
  · intro s hm hrun hop hhl
    have hstore : (Shape.ldIndImm (s.readByte (s.pc + 1#16))).store (s.setPc (s.pc + 2#16)) =
        some (s.pc + 1#16, s.readByte (s.pc + 1#16)) := by
      rw [store_setPc, Shape.store, hhl]
    exact ⟨_, step_ldIndImm hrun hop, fun a =>
      (readByte_effect_of_store hstore a).trans (State.readByte_writeByte_self hm ..)⟩

end Sys2Proof
end

section
/-! The decoder against the encoder (30_encoding.md R60, R61, R67 to R72): what an opcode byte decides, what a form's slot reads from its operand bytes, and the settled statements of 30_encoding.md. -/

namespace Sys2Proof

/-! ### What the opcode byte decides -/

theorem decode_opcode (sh : Shape) (bytes : List Byte) : decode (sh.opcode :: bytes) = sh.slot.read bytes := by
  rw [decode, opcodeTable_opcode]

/-- The opcode byte is refused whatever follows it, or it is a form's and the form's slot reads what follows it (R61). -/
theorem decode_cases (b : Byte) :
    (opcodeTable b = none ∧ ∀ bytes, decode (b :: bytes) = .error (.unmapped b)) ∨
    ∃ sh : Shape, b = sh.opcode ∧ opcodeTable b = some sh.slot ∧ ∀ bytes, decode (b :: bytes) = sh.slot.read bytes := by
  obtain hnone | ⟨sh, rfl, hsome⟩ := opcodeTable_cases b
  · exact .inl ⟨hnone, fun _ => by rw [decode, hnone]⟩
  · exact .inr ⟨sh, rfl, hsome, decode_opcode sh⟩

/-- What the decoder accepts was read by the slot of a form with that opcode byte, the same form for all bytes after it. -/
theorem decode_cons_eq_ok {b : Byte} {bytes rest : List Byte} {i : Instr} (h : decode (b :: bytes) = .ok (i, rest)) :
    ∃ sh : Shape, b = sh.opcode ∧ sh.slot.read bytes = .ok (i, rest) ∧
      ∀ bytes', decode (b :: bytes') = sh.slot.read bytes' := by
  obtain ⟨-, herr⟩ | ⟨sh, hop, -, hread⟩ := decode_cases b
  · rw [herr] at h
    cases h
  · exact ⟨sh, hop, hread bytes ▸ h, hread⟩

/-! ### What a slot reads -/

/-- A form's slot reads back the operands that the form's operand bytes carry; a relative offset only in its range (R67, R73). -/
theorem Shape.slot_read_operandBytes {sh : Shape} (h : sh.wellFormed = true) (rest : List Byte) :
    sh.slot.read (sh.operandBytes ++ rest) = .ok (sh.instr, rest) := by
  cases sh with
  | ldPairImm rr d16 => simp [Shape.slot, Shape.operandBytes, Slot.read, Shape.instr, immWord_halves]
  | jr off | jrIf cc off => simp [Shape.slot, Shape.operandBytes, Slot.read, Shape.instr, signed8_ofInt h]
  | _ => rfl

/-- A form's slot takes as many bytes as the form has operand bytes. -/
theorem Shape.slot_read_length {sh : Shape} {bytes rest : List Byte} {i : Instr}
    (h : sh.slot.read bytes = .ok (i, rest)) :
    i.length = 1 + sh.operandBytes.length ∧ i.length + rest.length = 1 + bytes.length := by
  obtain ⟨-, -, rfl, hlen⟩ := Shape.slot_read h
  simp [Instr.length, ← hlen, Nat.add_assoc]

theorem Slot.read_ne_unmapped (slot : Slot) (bytes : List Byte) (b : Byte) :
    slot.read bytes ≠ .error (.unmapped b) := by
  cases slot with
  | op i => nofun
  | d8 k | r8 k => cases bytes <;> nofun
  | d16 k => rcases bytes with _ | ⟨lo, _ | ⟨hi, more⟩⟩ <;> nofun

/-! ### The unmapped bytes -/

/-- The map of R68 leaves open exactly the 58 bytes listed in R69. -/
theorem isNone_opcodeTable : ∀ b : Byte, (opcodeTable b).isNone = unmappedOpcode b := by
  decide

theorem opcodeTable_eq_none_iff (b : Byte) : opcodeTable b = none ↔ unmappedOpcode b = true := by
  rw [← isNone_opcodeTable, Option.isNone_iff_eq_none]

theorem decode_cons_eq_unmapped_iff (b : Byte) (bytes : List Byte) :
    decode (b :: bytes) = .error (.unmapped b) ↔ opcodeTable b = none := by
  obtain ⟨hnone, herr⟩ | ⟨sh, -, hsome, hread⟩ := decode_cases b
  · exact iff_of_true (herr bytes) hnone
  · rw [hread, hsome]
    exact iff_of_false (sh.slot.read_ne_unmapped bytes b) nofun

/-! ### The settled statements -/

/-- Settles O1: the table holds the form's slot at the form's opcode byte, and the slot reads the form's operand bytes back. -/
theorem decodeInvertsEncode : Obligations.DecodeInvertsEncode := by
  intro i rest hwf
  rw [encode, List.cons_append, decode_opcode, Shape.slot_read_operandBytes hwf, i.instr_shape]

/-- Settles O2, by what the slot of the form at the opcode byte reads. -/
theorem encodeInvertsDecode : Obligations.EncodeInvertsDecode := by
  intro bytes rest i h
  cases bytes with
  | nil => cases h
  | cons b bytes =>
    obtain ⟨sh, rfl, hread, -⟩ := decode_cons_eq_ok h
    obtain ⟨hwf, hop, hbytes, -⟩ := Shape.slot_read hread
    exact ⟨hwf, by rw [encode, List.cons_append, hop, hbytes]⟩

/-- Settles O4: a slot never answers a dispatch miss, and the table has no slot exactly at the bytes of R69. -/
theorem decodeRefusesExactlyUnmapped : Obligations.DecodeRefusesExactlyUnmapped :=
  fun b rest => (decode_cons_eq_unmapped_iff b rest).trans (opcodeTable_eq_none_iff b)

/-- Settles O5: both readings are of one form's slot, and the form decides how many bytes it takes. -/
theorem opcodeDecidesLength : Obligations.OpcodeDecidesLength := by
  intro b xs ys xs' ys' i j hi hj
  obtain ⟨sh, -, hreadi, hread⟩ := decode_cons_eq_ok hi
  obtain ⟨hlen, htaken⟩ := Shape.slot_read_length hreadi
  obtain ⟨hlen', -⟩ := Shape.slot_read_length (hread ys ▸ hj)
  exact ⟨hlen.trans hlen'.symm, htaken, i.length_bounds⟩

/-- Settles O3, by evaluation of the decoder on the eleven words. -/
theorem specWordsDecode : Obligations.SpecWordsDecode :=
  ⟨rfl, rfl, rfl, rfl, rfl, rfl, rfl, rfl, rfl, rfl, rfl⟩

end Sys2Proof
end

section
/-! The sequencer (40_sequencer.md R80 to R89): the halted step, the step of what the decoder reads at PC, PC after a relative jump, and the settled statements of 40_sequencer.md. -/

namespace Sys2Proof

/-! ### Operand bytes, and a word plus an offset -/

/-- No slot takes more than two operand bytes (30_encoding.md R60). -/
theorem Slot.read_pair (slot : Slot) (x y : Byte) : ∃ i rest, slot.read [x, y] = .ok (i, rest) := by
  cases slot with
  | op | d8 | r8 | d16 => exact ⟨_, _, rfl⟩

theorem signed8_of_le {b : Byte} (h : b.toNat ≤ 0x7F) : signed8 b = b.toNat :=
  if_pos h

theorem signed8_of_ge {b : Byte} (h : 0x80 ≤ b.toNat) : signed8 b = (b.toNat : Int) - 0x100 :=
  if_neg (by omega)

theorem signed8_bounds (b : Byte) : -128 ≤ signed8 b ∧ signed8 b ≤ 127 := by
  simpa [offsetInRange] using offsetInRange_signed8 b

/-- A word plus an integer is their sum modulo 65536 (10_state.md R13; 40_sequencer.md R86). -/
theorem toNat_add_ofInt (v : Word) (off : Int) :
    ((v + BitVec.ofInt 16 off).toNat : Int) = ((v.toNat : Int) + off) % 65536 := by
  rw [BitVec.toNat_add, BitVec.toNat_ofInt]
  omega

end Sys2Proof

namespace Sys2Proof.Machine

/-! ### PC and the clock after an instruction -/

theorem effect_pc_of_taken {sh : Shape} {s : State} {off : Int} (h : sh.takenOffset s = some off) :
    (effect sh s).pc = s.pc + BitVec.ofInt 16 off := by
  obtain ⟨hpc, -, -⟩ := effect_pc_mem_sp sh s
  simp [hpc, h]

/-- The cost of an instruction does not depend on PC. -/
theorem clockAfter_setPc (sh : Shape) (s : State) (v : Word) : sh.clockAfter (s.setPc v) = sh.clockAfter s := rfl

/-! ### The step by the decoder -/

/-- A halted step is the identity (40_sequencer.md R81). -/
theorem step_of_halted {s : State} (h : s.halted = true) : step s = .next s :=
  if_pos h

/-- A running step has the effect of the instruction the decoder reads at PC, with PC past its bytes (40_sequencer.md R82, R84, R85). -/
theorem step_of_decode {s : State} {i : Instr} {rest : List Byte} (hrun : s.halted = false)
    (h : decode (bytesAtPc s) = .ok (i, rest)) :
    step s = .next (effect i.shape (s.setPc (s.pc + BitVec.ofNat 16 i.length))) :=
  step_of_fetchInstr hrun (fetchInstr_of_decode h)

/-- The bytes at PC are an instruction's, or the first of them is a dispatch miss: three bytes never end inside an instruction. -/
theorem decode_bytesAtPc_cases (s : State) :
    (∃ i rest, decode (bytesAtPc s) = .ok (i, rest)) ∨
    (opcodeTable (s.readByte s.pc) = none ∧ decode (bytesAtPc s) = .error (.unmapped (s.readByte s.pc))) := by
  obtain ⟨hnone, herr⟩ | ⟨sh, -, -, hread⟩ := decode_cases (s.readByte s.pc)
  · exact .inr ⟨hnone, herr _⟩
  · obtain ⟨i, rest, hpair⟩ := sh.slot.read_pair (s.readByte (s.pc + 1#16)) (s.readByte (s.pc + 2#16))
    exact .inl ⟨i, rest, (hread _).trans hpair⟩

end Sys2Proof.Machine

namespace Sys2Proof

open Sys2Proof.Machine

/-- Settles O17: a running step executes what the decoder reads at PC, with the clock and PC of that form's effect, or faults where the decoder refuses the byte. -/
theorem stepHasThreeOutcomes : Obligations.StepHasThreeOutcomes := by
  intro s
  cases Bool.eq_false_or_eq_true s.halted with
  | inl hhalted => exact .inl ⟨hhalted, step_of_halted hhalted⟩
  | inr hrun =>
    obtain ⟨i, rest, hdecode⟩ | ⟨hnone, hdecode⟩ := decode_bytesAtPc_cases s
    · refine .inr (.inl ⟨hrun, i, rest, _, hdecode, step_of_decode hrun hdecode, exec_eq_effect i _,
        (effect_clk ..).trans (clockAfter_setPc ..), ?_⟩)
      cases htaken : i.shape.takenOffset s with
      | none => exact .inl (effect_pc_of_not_taken ((takenOffset_setPc ..).trans htaken))
      | some off => exact .inr ⟨off, rfl, effect_pc_of_taken ((takenOffset_setPc ..).trans htaken)⟩
    · exact .inr (.inr ⟨hrun, hdecode, (step_eq_fault_iff s _).2 ⟨hrun, hnone, rfl⟩⟩)

/-- Settles O6, by the two ranges of a byte and the sum of a word and an integer. -/
theorem signedOffsetByteLaw : Obligations.SignedOffsetByteLaw := by
  intro b s
  obtain ⟨hlow, hhigh⟩ := signed8_bounds b
  refine ⟨signed8_of_le, signed8_of_ge, hlow, hhigh, _, exec_instr (.jr (signed8 b)) s, ?_⟩
  rw [effect_pc_of_taken rfl, toNat_add_ofInt]

/-- Settles O13, by the fetch of what the decoder reads at PC. -/
theorem stepRunsDecodedInstruction : Obligations.StepRunsDecodedInstruction := by
  intro s i rest hrun hdecode
  exact (step_of_decode hrun hdecode).trans (exec_eq_effect i _).symm

/-- Settles O14, by the first check of a step. -/
theorem haltedStepIsIdentity : Obligations.HaltedStepIsIdentity :=
  fun _ hhalted => step_of_halted hhalted

end Sys2Proof
end

section
/-! The loads and stores (41_load_store.md R101 to R115): the halves of a word and the word below it as numbers, and the settled statements of 41_load_store.md. -/

namespace Sys2Proof.Machine

/-! ### The halves of a word, and the word below -/

theorem hiByte_eq_ofNat (v : Word) : hiByte v = BitVec.ofNat 8 (v.toNat / 256) := by
  rw [← hiByte_ofNat, BitVec.ofNat_toNat, BitVec.setWidth_eq]

theorem loByte_eq_ofNat (v : Word) : loByte v = BitVec.ofNat 8 v.toNat := by
  rw [← loByte_ofNat, BitVec.ofNat_toNat, BitVec.setWidth_eq]

/-- HL - 1 modulo 65536 (R111, R113), as a number. -/
theorem toNat_sub_one (v : Word) : (v - 1#16).toNat = (v.toNat + 65535) % 65536 := by
  rw [BitVec.toNat_sub, Nat.add_comm]
  rfl

end Sys2Proof.Machine

namespace Sys2Proof

open Sys2Proof.Machine

/-- Settles O38: with HL + 1 and HL - 1 as the words whose numbers the statement gives, each form's effect is its next state; the access leaves HL alone, so the change is made to the HL it was addressed by. -/
theorem accumulatorIndirectForms : Obligations.AccumulatorIndirectForms := by
  intro s inc dec
  have hinc : (s.hl + 1#16).toNat = inc := BitVec.toNat_add ..
  have hdec : (s.hl - 1#16).toNat = dec := toNat_sub_one s.hl
  rw [← hinc, ← hdec]
  simp only [← hiByte_eq_ofNat, ← loByte_eq_ofNat]
  exact ⟨exec_instr (.storeA .bc) s, exec_instr (.storeA .de) s, exec_instr (.storeA .hlInc) s,
    exec_instr (.storeA .hlDec) s, exec_instr (.loadA .bc) s, exec_instr (.loadA .de) s,
    exec_instr (.loadA .hlInc) s, exec_instr (.loadA .hlDec) s⟩

/-- Settles O36, by the effect of the three forms. -/
theorem registerLoadsWriteTheirDestination : Obligations.RegisterLoadsWriteTheirDestination := fun dst src d8 s =>
  ⟨exec_instr (.ldRegReg dst src) s, exec_instr (.ldRegInd dst) s, exec_instr (.ldRegImm dst d8) s⟩

/-- Settles O37, by the effect of the two forms. -/
theorem storesThroughHlWriteOneByte : Obligations.StoresThroughHlWriteOneByte := fun src d8 s =>
  ⟨exec_instr (.ldIndReg src) s, exec_instr (.ldIndImm d8) s⟩

/-- Settles O39, by the effect of the form on each pair and the halves of the immediate as numbers. -/
theorem wordImmediateLoads : Obligations.WordImmediateLoads := by
  intro d16 s
  rw [← hiByte_eq_ofNat, ← loByte_eq_ofNat]
  exact ⟨exec_instr (.ldPairImm .bc d16) s, exec_instr (.ldPairImm .de d16) s,
    exec_instr (.ldPairImm .hl d16) s, exec_instr (.ldPairImm .sp d16) s⟩

end Sys2Proof
end

section
/-! The 8-bit arithmetic and logic family (42_alu8.md R120 to R147): the three operand forms of an operation at once, its results over the integers, and the settled statements of 42_alu8.md. -/

namespace Sys2Proof.Machine

/-! ### The three operand forms of R120 -/

/-- An 8-bit operation, whole: its result in A, unless it is CP, and its four flags in F. -/
theorem aluApply_eq_of_alu8 {op : AluOp} {v : Byte} {s : State} {r : AluOut}
    (h : alu8 op s.a v (s.flag .carry) = r) :
    aluApply op v s = { s with a := if op = .cp then s.a else r.result, f := r.flags } := by
  rw [aluApply_eq, aluApply_f, h, AluOut.flags]

/-- What an operation gives on every operand and clock, its register, memory and immediate form give at their operands and costs. -/
theorem exec_aluForms {op : AluOp} {s : State} {after : Byte → ClockState → State}
    (h : ∀ v clk, { aluApply op v s with clk := clk } = after v clk) (src : Reg8) (d8 : Byte) :
    exec (Shape.aluReg op src).instr s = .next (after (s.reg8 src) { m := 1, t := 4 }) ∧
    exec (Shape.aluInd op).instr s = .next (after (s.readByte s.hl) { m := 2, t := 8 }) ∧
    exec (Shape.aluImm op d8).instr s = .next (after d8 { m := 2, t := 8 }) := by
  simp only [← h]
  exact ⟨exec_instr .., exec_instr .., exec_instr ..⟩

/-- The forms of an operation whose result has Zero from its value, Subtract and Carry clear, and HalfCarry as the operation forces it (R123). -/
theorem exec_logicForms {op : AluOp} {s : State} {halfCarry : Bool} (hcp : op ≠ .cp) (value : Byte → Byte)
    (h : ∀ v, alu8 op s.a v (s.flag .carry) =
      { result := value v, z := decide (value v = 0#8), n := false, h := halfCarry, c := false })
    (src : Reg8) (d8 : Byte) :
    exec (Shape.aluReg op src).instr s = .next (expectedLogic s (value (s.reg8 src)) halfCarry { m := 1, t := 4 }) ∧
    exec (Shape.aluInd op).instr s = .next (expectedLogic s (value (s.readByte s.hl)) halfCarry { m := 2, t := 8 }) ∧
    exec (Shape.aluImm op d8).instr s = .next (expectedLogic s (value d8) halfCarry { m := 2, t := 8 }) := by
  refine exec_aluForms (after := fun v clk => expectedLogic s (value v) halfCarry clk) (fun v clk => ?_) src d8
  rw [aluApply_eq_of_alu8 (h v), if_neg hcp]
  rfl

/-! ### Addition and subtraction over the integers (R121, R122) -/

theorem ofNat_eq_zero_iff (n : Nat) : BitVec.ofNat 8 n = 0#8 ↔ n % 256 = 0 := by
  rw [← BitVec.toNat_inj, BitVec.toNat_ofNat]
  rfl

theorem ofInt_eq_zero_iff (i : Int) : BitVec.ofInt 8 i = 0#8 ↔ i % 256 = 0 := by
  rw [← BitVec.toNat_inj, BitVec.toNat_ofInt]
  change (i % 256).toNat = 0 ↔ _
  omega

theorem add8_z (a op : Byte) (cy : Bool) :
    (add8 a op cy).z = decide ((a.toNat + op.toNat + cy.toNat) % 256 = 0) :=
  decide_eq_decide.2 (ofNat_eq_zero_iff _)

theorem sub8_z (a op : Byte) (cy : Bool) :
    (sub8 a op cy).z = decide (((a.toNat : Int) - op.toNat - cy.toNat) % 256 = 0) :=
  decide_eq_decide.2 (ofInt_eq_zero_iff _)

theorem add8_flags (a op : Byte) (cy : Bool) : (add8 a op cy).flags =
    flagByte (decide ((a.toNat + op.toNat + cy.toNat) % 256 = 0)) false
      (decide (a.toNat % 16 + op.toNat % 16 + cy.toNat > 0xF)) (decide (a.toNat + op.toNat + cy.toNat > 0xFF)) := by
  rw [AluOut.flags, add8_z]
  rfl

theorem sub8_flags (s : State) (op : Byte) (cy : Bool) :
    (sub8 s.a op cy).flags = expectedSubFlags s op cy.toNat := by
  rw [AluOut.flags, sub8_z]
  rfl

/-- The carry-in of an operation that takes the old Carry or none. -/
theorem toNat_carryIn (withCarry carry : Bool) :
    (withCarry && carry).toNat = if withCarry then carry.toNat else 0 := by
  cases withCarry <;> rfl

/-! ### The complement of an operand, with the borrow inverted -/

theorem toNat_not_add_toNat (cy : Bool) : (!cy).toNat + cy.toNat = 1 := by
  cases cy <;> rfl

theorem toNat_complement_add (op : Byte) (cy : Bool) :
    (~~~op).toNat + (!cy).toNat + (op.toNat + cy.toNat) = 256 := by
  rw [BitVec.toNat_not]
  have hop := op.isLt
  have hcy := toNat_not_add_toNat cy
  omega

theorem lowNibble_complement_add (op : Byte) (cy : Bool) :
    lowNibble (~~~op) + (!cy).toNat + (lowNibble op + cy.toNat) = 16 := by
  rw [lowNibble, lowNibble, BitVec.toNat_not]
  have hop := op.isLt
  have hcy := toNat_not_add_toNat cy
  omega

/-- Modulo 256 the sum with the complement, 256 above the difference, is the difference. -/
theorem sub8_result_eq_add8_complement (a op : Byte) (cy : Bool) :
    (sub8 a op cy).result = (add8 a (~~~op) (!cy)).result := by
  have hdiff : (a.toNat : Int) - op.toNat - cy.toNat = (a.toNat + (~~~op).toNat + (!cy).toNat : Nat) - 256 := by
    have hsum := toNat_complement_add op cy
    omega
  rw [sub8, add8, hdiff, ← BitVec.toNat_inj, BitVec.toNat_ofInt, BitVec.toNat_ofNat]
  omega

end Sys2Proof.Machine

namespace Sys2Proof

open Sys2Proof.Machine

/-- Settles O40: both operations are the add function, with the old Carry as carry-in or none, and neither is CP. -/
theorem addAndAdcFollowTheAddFunction : Obligations.AddAndAdcFollowTheAddFunction := by
  intro s src d8 withCarry op cy
  have hcy : (withCarry && s.flag .carry).toNat = cy := toNat_carryIn ..
  refine exec_aluForms (after := fun v clk => expectedAdd s v cy clk) (fun v clk => ?_) src d8
  have hop : alu8 op s.a v (s.flag .carry) = add8 s.a v (withCarry && s.flag .carry) := by
    cases withCarry <;> rfl
  have hcp : op ≠ .cp := by cases withCarry <;> decide
  rw [aluApply_eq_of_alu8 hop, if_neg hcp, add8_flags, ← hcy]
  rfl

/-- Settles O41: both operations are the subtract function, with the old Carry as borrow-in or none, and neither is CP. -/
theorem subAndSbcFollowTheSubtractFunction : Obligations.SubAndSbcFollowTheSubtractFunction := by
  intro s src d8 withCarry op cy
  have hcy : (withCarry && s.flag .carry).toNat = cy := toNat_carryIn ..
  refine exec_aluForms (after := fun v clk => expectedSub s v cy clk) (fun v clk => ?_) src d8
  have hop : alu8 op s.a v (s.flag .carry) = sub8 s.a v (withCarry && s.flag .carry) := by
    cases withCarry <;> rfl
  have hcp : op ≠ .cp := by cases withCarry <;> decide
  rw [aluApply_eq_of_alu8 hop, if_neg hcp, sub8_flags, ← hcy]
  rfl

/-- Settles O42: the three operations differ in the value and in the HalfCarry they force. -/
theorem logicFollowsTheLogicFunctions : Obligations.LogicFollowsTheLogicFunctions := by
  intro s src d8
  obtain ⟨andReg, andInd, andImm⟩ := exec_logicForms (op := .and) (by decide) (s.a &&& ·) (fun _ => rfl) src d8
  obtain ⟨xorReg, xorInd, xorImm⟩ := exec_logicForms (op := .xor) (by decide) (s.a ^^^ ·) (fun _ => rfl) src d8
  exact ⟨andReg, andInd, andImm, xorReg, xorInd, xorImm,
    exec_logicForms (op := .or) (by decide) (s.a ||| ·) (fun _ => rfl) src d8⟩

/-- Settles O43: CP is the subtract function without borrow-in, and the one operation that leaves A. -/
theorem compareWritesFlagsOnly : Obligations.CompareWritesFlagsOnly := by
  intro s src d8
  refine exec_aluForms (after := fun v clk => { s with f := expectedSubFlags s v 0, clk := clk })
    (fun v clk => ?_) src d8
  rw [aluApply_eq_of_alu8 rfl, if_pos rfl]
  exact congrArg (fun f => { s with f := f, clk := clk }) (sub8_flags s v false)

/-- Settles O44: the operand and its complement, each with its own borrow, make 256, and their low nibbles 16, so a sum passes its bound exactly where the subtraction does not borrow. -/
theorem subtractionIsAdditionOfTheComplement : Obligations.SubtractionIsAdditionOfTheComplement := by
  intro a op cy
  have hresult := sub8_result_eq_add8_complement a op cy
  refine ⟨hresult, ?_, ?_, congrArg (fun r => decide (r = 0#8)) hresult⟩
  · have hsum := toNat_complement_add op cy
    rw [sub8, add8, ← decide_not, decide_eq_decide]
    omega
  · have hsum := lowNibble_complement_add op cy
    rw [sub8, add8, ← decide_not, decide_eq_decide]
    omega

end Sys2Proof
end

section
/-! The 16-bit addition (43_alu16.md R150): the settled statement of 43_alu16.md. -/

namespace Sys2Proof

open Sys2Proof.Machine

/-- Settles O45: the form's effect is the addition, whole; its word is the unbounded sum modulo 65536, so the halves written to H and L are that sum's, and its two carries are the statement's bounds. -/
theorem addHlFollowsItsRule : Obligations.AddHlFollowsItsRule := by
  intro s rr
  rw [← hiByte_ofNat, ← loByte_ofNat, ← BitVec.add_def]
  have heffect : exec (Shape.addHl rr).instr s = .next ((addHl rr s).setClock 8) := exec_instr ..
  rw [heffect, addHl_eq]
  rfl

end Sys2Proof
end

section
/-! The increment and decrement family (44_incdec.md R155 to R160): a byte and a word plus and minus one as numbers, the ±1 rule as addition and subtraction of one, and the settled statements of 44_incdec.md. -/

namespace Sys2Proof.Machine

/-! ### Plus and minus one, as numbers -/

theorem add_one_eq_ofNat (v : Byte) : v + 1#8 = BitVec.ofNat 8 (v.toNat + 1) := rfl

theorem sub_one_eq_ofNat (v : Byte) : v - 1#8 = BitVec.ofNat 8 (v.toNat + 255) := by
  rw [BitVec.sub_def, Nat.add_comm]
  rfl

theorem word_sub_one_eq_ofNat (v : Word) : v - 1#16 = BitVec.ofNat 16 (v.toNat + 65535) := by
  rw [BitVec.sub_def, Nat.add_comm]
  rfl

theorem add_one_eq_zero_iff (v : Byte) : v + 1#8 = 0#8 ↔ (v.toNat + 1) % 256 = 0 :=
  ofNat_eq_zero_iff _

theorem sub_one_eq_zero_iff (v : Byte) : v - 1#8 = 0#8 ↔ v.toNat = 1 := by
  rw [sub_one_eq_ofNat, ofNat_eq_zero_iff]
  omega

/-! ### The ±1 rule: the add and subtract functions at operand 1, Carry aside -/

theorem add8_one (v : Byte) : add8 v 1#8 false =
    { result := v + 1#8, z := decide (v + 1#8 = 0#8), n := false, h := incHalfCarry v
      c := decide (v.toNat + 1 > 0xFF) } := rfl

theorem sub8_one (v : Byte) : sub8 v 1#8 false =
    { result := v - 1#8, z := decide (v - 1#8 = 0#8), n := true, h := decHalfCarry v
      c := decide (v.toNat < 1) } := by
  have hresult : v - 1#8 = BitVec.ofInt 8 ((v.toNat : Int) - 1 - 0) := by
    rw [sub_one_eq_ofNat, ← BitVec.toNat_inj, BitVec.toNat_ofNat, BitVec.toNat_ofInt]
    omega
  rw [hresult]
  rfl

/-- A form that writes to a register an operation's result on it and 1, and its flags with Carry kept, agrees with the immediate form of that operation on 1. -/
theorem exec_agrees_with_aluImm_one {sh : Shape} {op : AluOp} {s u : State} {r : Reg8} {out : AluOut}
    (hcp : op ≠ .cp) (hout : alu8 op u.a 1#8 (u.flag .carry) = out)
    (hreg : (effect sh s).reg8 r = out.result) (hf : fAfter sh s = flagByte out.z out.n out.h (s.flag .carry)) :
    ∃ t w, exec sh.instr s = .next t ∧ exec (Shape.aluImm op 1#8).instr u = .next w ∧ t.reg8 r = w.a ∧
      t.flag .zero = w.flag .zero ∧ t.flag .subtract = w.flag .subtract ∧
      t.flag .halfCarry = w.flag .halfCarry ∧ t.flag .carry = s.flag .carry := by
  have ha : (effect (.aluImm op 1#8) u).a = out.result := by
    rw [effect, aluImm, aluApply_eq_of_alu8 hout, if_neg hcp]
    rfl
  have hflags : fAfter (.aluImm op 1#8) u = out.flags := congrArg AluOut.flags hout
  refine ⟨_, _, exec_instr .., exec_instr .., hreg.trans ha.symm, ?_⟩
  simp [effect_flag, hf, hflags, AluOut.flags, getLsbD_flagByte]

end Sys2Proof.Machine

namespace Sys2Proof

open Sys2Proof.Machine

/-- Settles O49: INC and DEC give what the add and subtract functions give on the register and 1, and write every flag but Carry from it. -/
theorem incDecAgreeWithAddSubOfOne : Obligations.IncDecAgreeWithAddSubOfOne := by
  intro s u r hu
  have hadd : alu8 .add u.a 1#8 (u.flag .carry) = add8 (s.reg8 r) 1#8 false := by rw [hu]; rfl
  have hsub : alu8 .sub u.a 1#8 (u.flag .carry) = sub8 (s.reg8 r) 1#8 false := by rw [hu]; rfl
  rw [add8_one] at hadd
  rw [sub8_one] at hsub
  exact ⟨exec_agrees_with_aluImm_one (by decide) hadd (by simp [effect, incReg]) rfl,
    exec_agrees_with_aluImm_one (by decide) hsub (by simp [effect, decReg]) rfl⟩

/-- Settles O46: each form's effect, whole, with v + 1 and its Zero as numbers. -/
theorem incrementOfAByte : Obligations.IncrementOfAByte := by
  intro s r flags
  have hflags (v : Byte) : flagByte (decide (v + 1#8 = 0#8)) false (incHalfCarry v) (s.flag .carry) = flags v := by
    rw [decide_eq_decide.2 (add_one_eq_zero_iff v)]
    rfl
  rw [← add_one_eq_ofNat, ← add_one_eq_ofNat, ← hflags, ← hflags]
  have hreg : exec (Shape.incReg r).instr s = .next ((incReg r s).setClock 4) := exec_instr ..
  have hind : exec .incIndHl s = .next ((incInd s).setClock 12) := exec_instr .incInd s
  rw [hreg, hind, incReg_eq, incInd_eq]
  exact ⟨rfl, rfl⟩

/-- Settles O47: each form's effect, whole, with v - 1 and its Zero as numbers. -/
theorem decrementOfAByte : Obligations.DecrementOfAByte := by
  intro s r flags
  have hflags (v : Byte) : flagByte (decide (v - 1#8 = 0#8)) true (decHalfCarry v) (s.flag .carry) = flags v := by
    rw [decide_eq_decide.2 (sub_one_eq_zero_iff v)]
    rfl
  rw [← sub_one_eq_ofNat, ← sub_one_eq_ofNat, ← hflags, ← hflags]
  have hreg : exec (Shape.decReg r).instr s = .next ((decReg r s).setClock 4) := exec_instr ..
  have hind : exec .decIndHl s = .next ((decInd s).setClock 12) := exec_instr .decInd s
  rw [hreg, hind, decReg_eq, decInd_eq]
  exact ⟨rfl, rfl⟩

/-- Settles O48: the effect of the two forms, with the word minus one as a number, and a pair after its write. -/
theorem incrementAndDecrementOfAPair : Obligations.IncrementAndDecrementOfAPair := by
  intro s rr
  rw [← word_sub_one_eq_ofNat]
  exact ⟨exec_instr (.incPair rr) s, exec_instr (.decPair rr) s, State.reg16_setReg16_same s rr⟩

end Sys2Proof
end

section
/-! The rotates of A (45_rotate_a.md R165 to R168): one step as a rotation of the 8 bits of A or of the 9 bits of Carry and A, rotations repeated, and the settled statements of 45_rotate_a.md. -/

namespace Sys2Proof.Machine

/-! ### The bits of a one-bit rotate, and the word it rotates -/

theorem getLsbD_shiftInLeft (v : Byte) (b : Bool) {i : Nat} (hi : i < 8) :
    (shiftInLeft v b).getLsbD i = if i = 0 then b else v.getLsbD (i - 1) := by
  by_cases h : i = 0 <;> simp [shiftInLeft, h, hi, -BitVec.getLsbD_eq_getElem]

theorem getLsbD_shiftInRight (v : Byte) (b : Bool) {i : Nat} (hi : i < 8) :
    (shiftInRight v b).getLsbD i = if i < 7 then v.getLsbD (1 + i) else b := by
  by_cases h : i < 7
  · simp [shiftInRight, h]
  · have htop : i = 7 := by omega
    simp [shiftInRight, htop]

/-- Bit 7 entering at bit 0, as in RLCA (R165). -/
theorem shiftInLeft_bit7 (v : Byte) : shiftInLeft v (v.getLsbD 7) = v.rotateLeft 1 := by
  refine BitVec.eq_of_getLsbD_eq fun i hi => ?_
  rw [getLsbD_shiftInLeft v _ hi, BitVec.getLsbD_rotateLeft]
  by_cases h : i = 0 <;> simp [h, hi]

/-- Bit 0 entering at bit 7, as in RRCA (R166). -/
theorem shiftInRight_bit0 (v : Byte) : shiftInRight v (v.getLsbD 0) = v.rotateRight 1 := by
  refine BitVec.eq_of_getLsbD_eq fun i hi => ?_
  rw [getLsbD_shiftInRight v _ hi, BitVec.getLsbD_rotateRight]
  by_cases h : i < 7
  · simp [h]
  · have htop : i = 7 := by omega
    simp [htop]

theorem getLsbD_ofBool_append_top (c : Bool) (v : Byte) : (BitVec.ofBool c ++ v).getLsbD 8 = c := by
  rw [BitVec.getLsbD_append]
  simp

theorem getLsbD_append_ofBool_zero (v : Byte) (c : Bool) : (v ++ BitVec.ofBool c).getLsbD 0 = c := by
  rw [BitVec.getLsbD_append]
  simp

/-- Carry above A turned left: bit 7 of A goes to Carry's place and Carry to bit 0, as in RLA (R167). -/
theorem rotateLeft_ofBool_append (c : Bool) (v : Byte) :
    (BitVec.ofBool c ++ v).rotateLeft 1 = BitVec.ofBool (v.getLsbD 7) ++ shiftInLeft v c := by
  refine BitVec.eq_of_getLsbD_eq fun i hi => ?_
  rw [BitVec.getLsbD_rotateLeft]
  simp only [BitVec.getLsbD_append]
  obtain rfl | rfl | ⟨hpos, hlt⟩ : i = 0 ∨ i = 8 ∨ 0 < i ∧ i < 8 := by omega
  · simp [getLsbD_shiftInLeft, -BitVec.getLsbD_eq_getElem]
  · simp
  · have hprev : i - 1 < 8 := by omega
    simp [getLsbD_shiftInLeft, hlt, hprev, hpos.ne', hi, -BitVec.getLsbD_eq_getElem]

/-- Carry below A turned right: bit 0 of A goes to Carry's place and Carry to bit 7, as in RRA (R168). -/
theorem rotateRight_append_ofBool (v : Byte) (c : Bool) :
    (v ++ BitVec.ofBool c).rotateRight 1 = shiftInRight v c ++ BitVec.ofBool (v.getLsbD 0) := by
  refine BitVec.eq_of_getLsbD_eq fun i hi => ?_
  rw [BitVec.getLsbD_rotateRight]
  simp only [BitVec.getLsbD_append]
  obtain rfl | rfl | ⟨hpos, hlt⟩ : i = 0 ∨ i = 8 ∨ 0 < i ∧ i < 8 := by omega
  · simp
  · simp [getLsbD_shiftInRight, -BitVec.getLsbD_eq_getElem]
  · have hprev : i - 1 < 7 := by omega
    rw [getLsbD_shiftInRight v c (by omega)]
    simp [hlt, hprev, hpos.ne', Nat.add_sub_of_le hpos]

/-- A form whose effect is a rotate at cost 4, whole: A, the four flags and the clock. -/
theorem exec_of_rotated {i : Instr} {s : State} {result : Byte} {out : Bool}
    (h : exec i s = .next ((rotated result out s).setClock 4)) :
    exec i s = .next { s with a := result, f := flagByte false false false out, clk := { m := 1, t := 4 } } := by
  rw [h, rotated_eq, rotated_f]
  rfl

/-! ### Rotations repeated -/

theorem rotateLeft_rotateLeft {w : Nat} (v : BitVec w) (m n : Nat) :
    (v.rotateLeft m).rotateLeft n = v.rotateLeft (m + n) := by
  refine BitVec.eq_of_getMsbD_eq fun i hi => ?_
  have hlt : (n + i) % w < w := Nat.mod_lt _ (by omega)
  simp [BitVec.getMsbD_rotateLeft, hlt, Nat.add_assoc]

theorem rotateLeft_zero {w : Nat} (v : BitVec w) : v.rotateLeft 0 = v := by
  ext i hi
  simp [BitVec.getElem_rotateLeft]

theorem iterate_rotateLeft_one {w : Nat} (v : BitVec w) (n : Nat) :
    ((·.rotateLeft 1) : BitVec w → BitVec w)^[n] v = v.rotateLeft n := by
  induction n with
  | zero => exact (rotateLeft_zero v).symm
  | succ n ih => rw [Function.iterate_succ_apply', ih, rotateLeft_rotateLeft]

/-- A word turned by one bit as often as it has bits comes round. -/
theorem iterate_rotateLeft_one_width {w : Nat} (v : BitVec w) :
    ((·.rotateLeft 1) : BitVec w → BitVec w)^[w] v = v := by
  rw [iterate_rotateLeft_one, ← BitVec.rotateLeft_mod_eq_rotateLeft, Nat.mod_self, rotateLeft_zero]

/-- The 9 bits that RLA rotates: Carry above A (R167). -/
def State.carryA (s : State) : BitVec 9 := BitVec.ofBool (s.flag .carry) ++ s.a

theorem State.carry_and_a_of_carryA_eq {s t : State} (h : s.carryA = t.carryA) : s.flag .carry = t.flag .carry ∧ s.a = t.a := by
  have hcarry := congrArg (·.getLsbD 8) h
  have ha := congrArg (·.extractLsb' 0 8) h
  simp only [State.carryA, getLsbD_ofBool_append_top, BitVec.extractLsb'_append_eq_right] at hcarry ha
  exact ⟨hcarry, ha⟩

/-- RLCA turns A by one bit (R165). -/
theorem semiconj_a_rotLeftCircular : Function.Semiconj State.a rotLeftCircular (·.rotateLeft 1) := fun s => by
  rw [rotLeftCircular, rotated_eq, shiftInLeft_bit7]

/-- RLA turns Carry and A by one bit (R167). -/
theorem semiconj_carryA_rotLeftCarry : Function.Semiconj State.carryA rotLeftCarry (·.rotateLeft 1) := fun s => by
  have hcarry : (rotLeftCarry s).flag .carry = s.a.getLsbD 7 := by
    rw [State.flag, rotLeftCarry, rotated_f]
    exact flagByte_carry ..
  have ha : (rotLeftCarry s).a = shiftInLeft s.a (s.flag .carry) := by rw [rotLeftCarry, rotated_eq]
  rw [State.carryA, hcarry, ha]
  exact (rotateLeft_ofBool_append ..).symm

end Sys2Proof.Machine

namespace Sys2Proof

open Sys2Proof.Machine

/-- Settles O50: each form's effect is a rotate, whole, whose result and bit out are the two parts of the rotated word. -/
theorem rotatesOfA : Obligations.RotatesOfA := by
  intro s left right
  have hleft : left = _ := rotateLeft_ofBool_append (s.flag .carry) s.a
  have hright : right = _ := rotateRight_append_ofBool s.a (s.flag .carry)
  rw [hleft, hright, BitVec.extractLsb'_append_eq_right, BitVec.extractLsb'_append_eq_left,
    getLsbD_ofBool_append_top, getLsbD_append_ofBool_zero, ← shiftInLeft_bit7, ← shiftInRight_bit0]
  exact ⟨exec_of_rotated (exec_instr .rlca s), exec_of_rotated (exec_instr .rrca s),
    exec_of_rotated (exec_instr .rla s), exec_of_rotated (exec_instr .rra s)⟩

/-- Settles O51: RLCA rotates A and RLA rotates Carry and A by one bit, and a word turned by one bit as often as it has bits comes round. -/
theorem rotationsComeRound : Obligations.RotationsComeRound := by
  intro s
  have hcircular : (rotLeftCircular^[8] s).a = s.a :=
    (semiconj_a_rotLeftCircular.iterate_right 8 s).trans (iterate_rotateLeft_one_width s.a)
  have hcarryA : (rotLeftCarry^[9] s).carryA = s.carryA :=
    (semiconj_carryA_rotLeftCarry.iterate_right 9 s).trans (iterate_rotateLeft_one_width s.carryA)
  obtain ⟨hcarry, ha⟩ := State.carry_and_a_of_carryA_eq hcarryA
  exact ⟨hcircular, ha, hcarry, exec_instr .rlca s, exec_instr .rla s⟩

end Sys2Proof
end

section
/-! The relative jumps (46_jr.md R170 to R175): the offset a decoded jump carries, the target of a taken jump as a number, and the settled statements of 46_jr.md. -/

namespace Sys2Proof.Machine

/-! ### The offset of a decoded jump -/

/-- A decoded form whose operand is an offset carries the signed byte after the opcode (R170; 40_sequencer.md R86), and its two bytes are all it takes. -/
theorem offset_of_decode {s : State} {i : Instr} {rest : List Byte} {off : Int}
    (h : decode (bytesAtPc s) = .ok (i, rest)) (hwf : i.shape.wellFormed = offsetInRange off)
    (hbytes : i.shape.operandBytes = [BitVec.ofInt 8 off]) :
    off = signed8 (s.readByte (s.pc + 1#16)) ∧ i.length = 2 := by
  obtain ⟨hwellFormed, hread⟩ := encodeInvertsDecode _ _ _ h
  have hrange : offsetInRange off = true := hwf.symm.trans hwellFormed
  have hbyte : BitVec.ofInt 8 off = s.readByte (s.pc + 1#16) := by
    rw [encode, hbytes] at hread
    exact (List.cons.inj (List.cons.inj hread).2).1
  exact ⟨by rw [← hbyte, signed8_ofInt hrange], by simp [Instr.length, hbytes]⟩

/-- Both kinds of relative jump have an offset as their one operand. -/
theorem offset_of_decode_jump {s : State} {i : Instr} {rest : List Byte} {off : Int} {cc : Cond}
    (h : decode (bytesAtPc s) = .ok (i, rest)) (hjump : i.shape = .jr off ∨ i.shape = .jrIf cc off) :
    off = signed8 (s.readByte (s.pc + 1#16)) ∧ i.length = 2 := by
  obtain hjr | hjrIf := hjump
  · exact offset_of_decode h (congrArg Shape.wellFormed hjr) (congrArg Shape.operandBytes hjr)
  · exact offset_of_decode h (congrArg Shape.wellFormed hjrIf) (congrArg Shape.operandBytes hjrIf)

/-! ### PC after a step that jumps or does not -/

theorem toNat_effect_pc_of_taken {sh : Shape} {s : State} {off : Int} (n : Nat) (h : sh.takenOffset s = some off) :
    ((effect sh (s.setPc (s.pc + BitVec.ofNat 16 n))).pc.toNat : Int) = (s.pc.toNat + n + off) % 65536 := by
  rw [effect_pc_of_taken ((takenOffset_setPc ..).trans h), State.setPc_pc, toNat_add_ofInt, BitVec.toNat_add,
    BitVec.toNat_ofNat]
  omega

theorem toNat_effect_pc_of_not_taken {sh : Shape} {s : State} (n : Nat) (h : sh.takenOffset s = none) :
    (effect sh (s.setPc (s.pc + BitVec.ofNat 16 n))).pc.toNat = (s.pc.toNat + n) % 65536 := by
  rw [effect_pc_of_not_taken ((takenOffset_setPc ..).trans h), State.setPc_pc, BitVec.toNat_add,
    BitVec.toNat_ofNat, Nat.add_mod_mod]

/-! ### The next state of a jump -/

theorem ofInt_toNat_add (v : Word) (off : Int) :
    BitVec.ofInt 16 ((v.toNat : Int) + off) = v + BitVec.ofInt 16 off := by
  rw [BitVec.ofInt_add, BitVec.ofInt_natCast, BitVec.ofNat_toNat, BitVec.setWidth_eq]

/-- A conditional jump by any proposition that says its condition holds (R172 to R175). -/
theorem exec_jrIf {cc : Cond} {s : State} {p : Prop} [Decidable p] (off : Int) (hp : s.cond cc = true ↔ p) :
    exec (Shape.jrIf cc off).instr s =
      if p then .next ((jumpRel off s).setClock 12) else .next (s.setClock 8) := by
  rw [exec_instr, effect]
  obtain ⟨hc, hjump⟩ | ⟨hc, hjump⟩ := jumpRelIf_cases cc off s
  · rw [hjump, if_pos (hp.1 hc)]
  · rw [hjump, if_neg (hp.not.1 (by simp [hc]))]

end Sys2Proof.Machine

namespace Sys2Proof

open Sys2Proof.Machine

/-- Settles O19: the decoded jump carries the signed byte after its opcode and takes two bytes, and PC past them moves by the taken offset or stays. -/
theorem relativeTargetLaw : Obligations.RelativeTargetLaw := by
  intro s i rest off cc hrun hdecode hjump
  obtain ⟨hoff, hlen⟩ := offset_of_decode_jump hdecode hjump
  obtain ⟨hlow, hhigh⟩ := signed8_bounds (s.readByte (s.pc + 1#16))
  refine ⟨hoff, hoff ▸ hlow, hoff ▸ hhigh, _, hlen ▸ step_of_decode hrun hdecode, fun htaken => ?_, ?_⟩
  · refine toNat_effect_pc_of_taken 2 ?_
    obtain hjr | hjrIf := hjump
    · rw [hjr]; rfl
    · have hcond : s.cond cc = true := htaken.resolve_left (by simp [hjrIf])
      rw [hjrIf, takenOffset_jrIf, if_pos hcond]
  · rintro ⟨hjrIf, hcond⟩
    refine toNat_effect_pc_of_not_taken 2 ?_
    rw [hjrIf, takenOffset_jrIf, if_neg (by simp [hcond])]

/-- Settles O52: with the target as PC plus the offset, a jump's effect is its next state, and each condition is the flag bit of the statement, set or clear. -/
theorem relativeJumps : Obligations.RelativeJumps := by
  intro s off
  rw [ofInt_toNat_add]
  exact ⟨exec_instr (.jr off) s, exec_jrIf (cc := .nz) off (Bool.not_eq_true' _).to_iff,
    exec_jrIf (cc := .z) off Iff.rfl, exec_jrIf (cc := .nc) off (Bool.not_eq_true' _).to_iff,
    exec_jrIf (cc := .c) off Iff.rfl⟩

end Sys2Proof
end

section
/-! DAA, CPL, SCF and CCF (47_daa_cpl_scf_ccf.md R180 to R183): the adjustment of DAA over the integers, what it gives after the addition and the subtraction of packed BCD (law L7), and the settled statements of 47_daa_cpl_scf_ccf.md. -/

namespace Sys2Proof.Machine

/-! ### DAA over the integers (R180) -/

/-- The two terms of R180 share no bit, so their disjunction in the model is their sum. -/
theorem daaAdjust_eq_ofInt (a : Byte) (n h c : Bool) :
    daaAdjust a n h c = BitVec.ofInt 8 ((if daaLow a n h then 0x06 else 0) + (if daaHigh a n c then 0x60 else 0)) := by
  rw [daaAdjust]
  cases daaLow a n h <;> cases daaHigh a n c <;> rfl

theorem daaResult_eq_ofInt (a : Byte) (n h c : Bool) :
    daaResult a n h c =
      let adj : Int := (if daaLow a n h then 0x06 else 0) + (if daaHigh a n c then 0x60 else 0)
      BitVec.ofInt 8 (if n then (a.toNat : Int) - adj else (a.toNat : Int) + adj) := by
  have ha : BitVec.ofInt 8 a.toNat = a := by rw [BitVec.ofInt_natCast, BitVec.ofNat_toNat, BitVec.setWidth_eq]
  rw [daaResult, daaAdjust_eq_ofInt]
  cases n with
  | false => exact (congrArg (· + _) ha.symm).trans (BitVec.ofInt_add ..).symm
  | true =>
    simp only [if_true, Int.sub_eq_add_neg, BitVec.ofInt_add, BitVec.ofInt_neg, ha, BitVec.sub_eq_add_neg]

/-- DAA after a register form that writes A: A and Carry, from the result and the flags of the operation. -/
theorem exec_aluReg_daa {op : AluOp} {src : Reg8} {s : State} {r : AluOut} (hcp : op ≠ .cp)
    (h : alu8 op s.a (s.reg8 src) (s.flag .carry) = r) :
    ∃ t u, exec (Shape.aluReg op src).instr s = .next t ∧ exec .daa t = .next u ∧
      u.a = daaResult r.result r.n r.h r.c ∧ u.flag .carry = daaHigh r.result r.n r.c := by
  have hout : aluReg op src s = { s with a := r.result, f := r.flags } := by
    rw [aluReg, aluApply_eq_of_alu8 h, if_neg hcp]
  have ha : (effect (.aluReg op src) s).a = r.result := by rw [effect, hout]; rfl
  have hflag (x : Flag) : (effect (.aluReg op src) s).flag x = r.flags.getLsbD x.bit := by rw [effect, hout]; rfl
  refine ⟨_, _, exec_instr .., exec_instr .daa _, ?_, ?_⟩
  · change (decimalAdjust (effect (.aluReg op src) s)).a = _
    rw [decimalAdjust_eq]
    simp only [ha, hflag, AluOut.flags, getLsbD_flagByte, reduceCtorEq, if_true, if_false]
  · rw [effect_flag, fAfter]
    simp only [ha, hflag, AluOut.flags, getLsbD_flagByte, reduceCtorEq, if_true, if_false]

/-! ### DAA on packed BCD (R180, corner case f) -/

theorem toNat_packedBcd {x : Nat} (hx : x < 100) : (packedBcd x).toNat = 16 * (x / 10) + x % 10 := by
  rw [packedBcd, BitVec.toNat_ofNat]
  omega

/-- The two digits, modulo 100, of any tens and ones: the ones carry to the tens, and borrow from them. -/
theorem toNat_packedBcd_emod (tens ones : Int) :
    ((packedBcd ((10 * tens + ones) % 100).toNat).toNat : Int) = 16 * ((tens + ones / 10) % 10) + ones % 10 := by
  rw [toNat_packedBcd (by omega)]
  omega

/-- The sum of two packed bytes, by the sums of their tens and of their ones. -/
theorem add8_packedBcd {x y : Nat} (hx : x < 100) (hy : y < 100) :
    ∃ tens ones, tens ≤ 18 ∧ ones ≤ 18 ∧ 10 * tens + ones = x + y ∧
      (add8 (packedBcd x) (packedBcd y) false).result = BitVec.ofNat 8 (16 * tens + ones) ∧
      (add8 (packedBcd x) (packedBcd y) false).h = decide (ones > 15) ∧
      (add8 (packedBcd x) (packedBcd y) false).c = decide (16 * tens + ones > 255) := by
  refine ⟨x / 10 + y / 10, x % 10 + y % 10, by omega, by omega, by omega, ?_⟩
  simp only [add8, lowNibble, toNat_packedBcd hx, toNat_packedBcd hy, Bool.toNat_false, decide_eq_decide]
  refine ⟨congrArg _ ?_, ?_, ?_⟩ <;> omega

/-- The difference of two packed bytes, by the differences of their tens and of their ones: it borrows where the numbers do. -/
theorem sub8_packedBcd {x y : Nat} (hx : x < 100) (hy : y < 100) :
    ∃ tens ones : Int, (-9 ≤ tens ∧ tens ≤ 9) ∧ (-9 ≤ ones ∧ ones ≤ 9) ∧ 10 * tens + ones = x - y ∧
      (sub8 (packedBcd x) (packedBcd y) false).result = BitVec.ofInt 8 (16 * tens + ones) ∧
      (sub8 (packedBcd x) (packedBcd y) false).h = decide (ones < 0) ∧
      (sub8 (packedBcd x) (packedBcd y) false).c = decide (10 * tens + ones < 0) := by
  refine ⟨(x / 10 : Nat) - (y / 10 : Nat), (x % 10 : Nat) - (y % 10 : Nat), by omega, by omega, by omega, ?_⟩
  simp only [sub8, lowNibble, toNat_packedBcd hx, toNat_packedBcd hy, Bool.toNat_false, decide_eq_decide]
  refine ⟨congrArg _ ?_, ?_, ?_⟩ <;> omega

/-- After an addition the 0x06 term is the decimal carry out of the ones: their sum passes a nibble, or leaves a nibble above 9. -/
theorem daaLow_of_digit_sums {tens ones : Nat} (hones : ones ≤ 18) :
    daaLow (BitVec.ofNat 8 (16 * tens + ones)) false (decide (ones > 15)) = decide (ones ≥ 10) := by
  simp only [daaLow, lowNibble, BitVec.toNat_ofNat, Bool.not_false, Bool.true_and, ← Bool.decide_or, decide_eq_decide]
  omega

section
variable {tens ones : Nat} (htens : tens ≤ 18) (hones : ones ≤ 18)
include htens hones

/-- After an addition the 0x60 term is the decimal carry out of the tens. -/
theorem daaHigh_of_digit_sums :
    daaHigh (BitVec.ofNat 8 (16 * tens + ones)) false (decide (16 * tens + ones > 255)) =
      decide (10 * tens + ones ≥ 100) := by
  simp only [daaHigh, BitVec.toNat_ofNat, Bool.not_false, Bool.true_and, ← Bool.decide_or, decide_eq_decide]
  omega

/-- After an addition each decimal carry is made up for by 6, by which the range of a nibble is above that of a digit. -/
theorem daaResult_of_digit_sums :
    daaResult (BitVec.ofNat 8 (16 * tens + ones)) false (decide (ones > 15)) (decide (16 * tens + ones > 255)) =
      packedBcd ((10 * tens + ones) % 100) := by
  have hdigits := toNat_packedBcd_emod tens ones
  have hmod : ((10 * (tens : Int) + ones) % 100).toNat = (10 * tens + ones) % 100 := by omega
  have hhundreds : 10 * tens + ones ≥ 100 ↔ tens + ones / 10 ≥ 10 := by omega
  rw [hmod] at hdigits
  rw [daaResult_eq_ofInt, daaLow_of_digit_sums hones, daaHigh_of_digit_sums htens hones, ← BitVec.toNat_inj]
  simp only [BitVec.toNat_ofInt, BitVec.toNat_ofNat, decide_eq_true_eq, Bool.false_eq_true, if_false, hhundreds]
  -- The carries now read tens and ones apart; their whole divided by 100 would keep `omega` from deciding.
  clear hmod hhundreds
  omega

end

/-- After a subtraction each borrow took 16 where a decimal borrow takes 10, and DAA takes the other 6. -/
theorem daaResult_of_digit_differences {tens ones : Int} (htens : -9 ≤ tens ∧ tens ≤ 9)
    (hones : -9 ≤ ones ∧ ones ≤ 9) :
    daaResult (BitVec.ofInt 8 (16 * tens + ones)) true (decide (ones < 0)) (decide (10 * tens + ones < 0)) =
      packedBcd ((10 * tens + ones) % 100).toNat := by
  have hdigits := toNat_packedBcd_emod tens ones
  rw [daaResult_eq_ofInt, ← BitVec.toNat_inj]
  simp only [daaLow, daaHigh, BitVec.toNat_ofInt, Bool.not_true, Bool.false_and, Bool.or_false, decide_eq_true_eq,
    if_true]
  omega

/-! ### The complement of A (R181) -/

theorem not_eq_ofNat (v : Byte) : ~~~v = BitVec.ofNat 8 (255 - v.toNat) := by
  rw [← BitVec.toNat_inj, BitVec.toNat_not, BitVec.toNat_ofNat]
  omega

end Sys2Proof.Machine

namespace Sys2Proof

open Sys2Proof.Machine

/-- Settles O53: the form's effect, whole, with the model's result as the integers give it; the two conditions are the model's own. -/
theorem decimalAdjustFollowsItsRule : Obligations.DecimalAdjustFollowsItsRule := by
  intro s a n low high adj result
  have hresult : daaResult s.a n (s.flag .halfCarry) (s.flag .carry) = result := daaResult_eq_ofInt ..
  have heffect : exec .daa s = .next ((decimalAdjust s).setClock 4) := exec_instr .daa s
  rw [heffect, decimalAdjust_eq, decimalAdjust_f, hresult]
  rfl

/-- Settles O54: DAA sees Subtract clear, and its terms are the decimal carries of the two digits. -/
theorem daaCorrectsBcdAddition : Obligations.DaaCorrectsBcdAddition := by
  intro s x y hx hy ha hb
  obtain ⟨tens, ones, htens, hones, hsum, hresult, hh, hc⟩ := add8_packedBcd hx hy
  have hadd : alu8 .add s.a (s.reg8 .b) (s.flag .carry) = add8 (packedBcd x) (packedBcd y) false := by
    rw [← ha, ← hb]; rfl
  obtain ⟨t, u, ht, hu, hua, hucarry⟩ := exec_aluReg_daa (by decide) hadd
  rw [hresult, hc] at hua hucarry
  rw [hh] at hua
  rw [← hsum]
  exact ⟨t, u, ht, hu, hua.trans (daaResult_of_digit_sums htens hones),
    hucarry.trans (daaHigh_of_digit_sums htens hones)⟩

/-- Settles O55: DAA sees Subtract set, and its terms are the borrows of the two digits, which the flags hold. -/
theorem daaCorrectsBcdSubtraction : Obligations.DaaCorrectsBcdSubtraction := by
  intro s x y hx hy ha hb
  obtain ⟨tens, ones, htens, hones, hdiff, hresult, hh, hc⟩ := sub8_packedBcd hx hy
  have hsub : alu8 .sub s.a (s.reg8 .b) (s.flag .carry) = sub8 (packedBcd x) (packedBcd y) false := by
    rw [← ha, ← hb]; rfl
  obtain ⟨t, u, ht, hu, hua, hucarry⟩ := exec_aluReg_daa (by decide) hsub
  have hmod : (x + 100 - y) % 100 = ((10 * tens + ones) % 100).toNat := by omega
  have hborrow : x < y ↔ 10 * tens + ones < 0 := by omega
  rw [hresult, hc] at hua hucarry
  rw [hh] at hua
  rw [hmod, decide_eq_decide.2 hborrow]
  exact ⟨t, u, ht, hu, hua.trans (daaResult_of_digit_differences htens hones), hucarry.trans (Bool.or_false _)⟩

/-- Settles O56: each form's effect, whole, with the complement of A as a number. -/
theorem complementAndCarryInstructions : Obligations.ComplementAndCarryInstructions := by
  intro s
  have hcpl : exec .cpl s = .next ((complementA s).setClock 4) := exec_instr .cpl s
  have hscf : exec .scf s = .next ((setCarry s).setClock 4) := exec_instr .scf s
  have hccf : exec .ccf s = .next ((complementCarry s).setClock 4) := exec_instr .ccf s
  rw [hcpl, hscf, hccf, complementA_eq, setCarry_eq, complementCarry_eq, not_eq_ofNat]
  exact ⟨rfl, rfl, rfl⟩

end Sys2Proof
end

section
/-! HALT and STOP (48_halt_stop.md R185, R186), the dispatch miss (60_exceptions.md R202) and the halted run (70_reset_and_hazards.md R236): a run cut in two, a run from a halted state, and the settled statements of the three files. -/

namespace Sys2Proof.Machine

/-- A run of `m + n` steps ends in a state exactly where `m` steps end in a state from which `n` steps end there. -/
theorem run_add_eq_next_iff (M : Host.Core) (m n : Nat) (s t : M.State) :
    M.run (m + n) s = .next t ↔ ∃ u, M.run m s = .next u ∧ M.run n u = .next t := by
  induction m generalizing s with
  | zero => simp [Host.Core.run]
  | succ m ih =>
    rw [Nat.succ_add]
    simp only [Host.Core.run]
    cases M.step s with
    | next s' => exact ih s'
    | fault r | refused r => simp

/-- From a halted state every run stays there. -/
theorem run_of_halted {s : State} (h : s.halted = true) (k : Nat) : core.run k s = .next s := by
  have hone : core.run 1 s = .next s := by
    have hstep : core.step s = .next s := step_of_halted h
    simp only [Host.Core.run, hstep]
  induction k with
  | zero => rfl
  | succ k ih => exact (run_add_eq_next_iff ..).2 ⟨s, ih, hone⟩

end Sys2Proof.Machine

namespace Sys2Proof

open Sys2Proof.Machine

/-- Settles O57, by the effect of the two forms. -/
theorem haltAndStopSetTheirFlag : Obligations.HaltAndStopSetTheirFlag := fun s =>
  ⟨exec_instr .halt s, exec_instr .stop s⟩

/-- Settles O15, by the faults of a step, with PC + 1 as a number. -/
theorem dispatchMissLeavesOnlyPcAdvanced : Obligations.DispatchMissLeavesOnlyPcAdvanced := by
  intro s hrun hnone
  have hpc : BitVec.ofNat 16 ((s.pc.toNat + 1) % 65536) = s.pc + 1#16 := BitVec.eq_of_toNat_eq (by simp)
  rw [hpc]
  exact (step_eq_fault_iff s _).2 ⟨hrun, hnone, rfl⟩

/-- Settles O27: a run longer than `k` goes on from the halted state, and a shorter one is a beginning of the run of `k` steps. -/
theorem haltedRunIsFinalAndSafe : Obligations.HaltedRunIsFinalAndSafe := by
  rintro s t k ⟨hrun, hhalted⟩
  have hlonger : ∀ j, k ≤ j → core.run j s = .next t := by
    intro j hj
    rw [← Nat.add_sub_cancel' hj]
    exact (run_add_eq_next_iff ..).2 ⟨t, hrun, run_of_halted hhalted _⟩
  refine ⟨fun j => ?_, hlonger⟩
  have hboth : core.run (j + k) s = .next t := hlonger _ (Nat.le_add_left k j)
  obtain ⟨u, hu, -⟩ := (run_add_eq_next_iff ..).1 hboth
  exact ⟨u, hu⟩

end Sys2Proof
end
